-- ==== Sys2Proof/Word.lean ====
section
/-! DEFINITION. The widths of the block's data (spec 00 R13, 20 R67): bytes of a packet, the 16-bit SET operands and
`POWER`, the 32-bit pattern of `FREQ`. Everything else the spec counts (ticks, indices, lengths) is a natural number. -/

namespace Sys2Proof

/-- A byte: 8 bits, unsigned, bit 0 the least significant (R13). -/
abbrev Byte := BitVec 8

/-- A 16-bit unsigned quantity: `POWER` and the wire frequency (R67). -/
abbrev Half := BitVec 16

/-- A 32-bit pattern: `FREQ`, and the argument of a radio operation (R67, R208). -/
abbrev Word := BitVec 32

end Sys2Proof
end

