-- ==== Sys2Proof/Config.lean ====
section
/-! DEFINITION. What an implementation fixes (spec 00 R8, R9: "a configuration record whose default values are the ones in
the table") and the values the environment draws (10 R44), which are opaque constants: nothing can be proved of them. -/

namespace Sys2Proof

/-- `BIT_ORDER` (20 R64): which bit of a byte is first on the line, in both directions. -/
inductive BitOrder where
  | lsbFirst
  | msbFirst
deriving DecidableEq, Repr

/-- `START_DETECT` (R9, D5). `edge` is the spec's value. `level` is the alternative D5 argues against (a sampled 0 opens a
byte whatever came before); log entry 10. -/
inductive StartDetect where
  | edge
  | level
deriving DecidableEq, Repr

/-- Decision D8, exposed as configuration because R158 asks for it. The defaults ARE D8: no bit before the eight bits of a
byte, none after them, and the output latch left alone in the gap. Any other value is the model's own; log entry 12. -/
structure TxFraming where
  /-- bits driven, `T_BIT` each, before the eight bits of a byte -/
  lead : List Bool := []
  /-- bits driven, `T_BIT` each, after the eight bits of a byte -/
  tail : List Bool := []
  /-- the level the gap drives; `none`: the latch is held -/
  gap : Option Bool := none
deriving DecidableEq, Repr

/-- The parameters of R8 and R9, with their values there as defaults. Durations are in ticks of `TICK` = 1 us. -/
structure Config where
  /-- `DEV_ADDR` -/
  devAddr : Byte := 0xEE
  /-- `CMD_SET` -/
  cmdSet : Byte := 0x10
  /-- `CMD_BIND` -/
  cmdBind : Byte := 0x20
  /-- `ACK_LEN_FIELD` -/
  ackLenField : Byte := 0x02
  /-- `ACK_STATUS` -/
  ackStatus : Byte := 0x01
  /-- `MIN_PKT_LEN` -/
  minPktLen : Nat := 6
  /-- `SET_MIN_PAYLOAD` -/
  setMinPayload : Nat := 5
  /-- `TERM_MIN_LEN` -/
  termMinLen : Nat := 8
  /-- `TERM_BYTE` -/
  termByte : Byte := 0x00
  /-- `T_BIT` -/
  tBit : Nat := 58
  /-- `T_GAP` -/
  tGap : Nat := 100
  /-- `T_RXTO`, the receive window -/
  tRxto : Nat := 100000
  /-- `T_SETTLE` -/
  tSettle : Nat := 10000
  /-- `T_SLEEP` -/
  tSleep : Nat := 100000
  /-- `DEF_FREQ_MHZ`, the binary32 pattern of 868.0 -/
  defFreq : Word := 0x44590000
  /-- `DEF_POWER_MW` -/
  defPower : Half := 100
  /-- `LINK_SF` -/
  linkSf : Word := 7
  /-- `LINK_BW_HZ` -/
  linkBw : Word := 125000
  /-- `LINK_CR` -/
  linkCr : Word := 5
  /-- `FREQ_SCALE`: the wire frequency is MHz times this -/
  freqScale : Nat := 10
  /-- `POLL`: the ticks one line sample takes -/
  poll : Nat := 1
  /-- `BIT_ORDER` -/
  bitOrder : BitOrder := .lsbFirst
  /-- `START_DETECT` -/
  startDetect : StartDetect := .edge
  /-- `RXBUF_MAX` -/
  rxbufMax : Nat := 256
  /-- `LINE_ACTIVE_HIGH` -/
  lineActiveHigh : Bool := true
  /-- D8 (R158) -/
  txFraming : TxFraming := {}
deriving DecidableEq, Repr

/-- A parameter set the rules make sense for: the two commands differ, the bytes a command reads exist once its length test
has passed (R68), a sample takes time (D3), the wire scale is a 16-bit number other than zero, and the lengths fit `RXLEN`'s nine bits (R32). -/
def Config.wf (c : Config) : Bool :=
  c.cmdSet != c.cmdBind && decide (3 ≤ c.minPktLen) && decide (4 ≤ c.setMinPayload) && decide (1 ≤ c.poll) &&
    decide (c.rxbufMax ≤ 256) && decide (0 < c.freqScale) && decide (c.freqScale ≤ 65535)

/-- The bytes of the Bind Acknowledgement (30 R99). -/
def Config.ackBytes (c : Config) : List Byte := [c.devAddr, c.ackLenField, c.cmdBind, c.ackStatus]

/-! ### Free values (10 R44: the line waveform, the collaborators' answers and the durations are not the block's) -/

/-- `L` (R16): the level of the line (high is `true`) at a tick for which the state lists no waveform. -/
opaque Config.lineLevel : Nat → Bool

/-- `T_CALL` (R207) of the n-th transaction, when the state lists no answer for it: any finite number of ticks. -/
opaque Config.callTicks : Nat → Nat

/-- Whether the n-th transaction, if it is a `store.load`, can read the store (R202). -/
opaque Config.callReadable : Nat → Bool

/-- Whether the n-th transaction, if it is a `store.save`, reports success (R203). -/
opaque Config.callOk : Nat → Bool

/-- Whether the n-th transaction, if it is a `store.save` that fails, left the new pair in the store (93 U6). -/
opaque Config.callLanded : Nat → Bool

/-- What the store holds when the machine is first reset (10 R43 (d)); `none`: no pair has been committed. -/
opaque Config.initialStore : Option (Word × Half)

end Sys2Proof
end

