-- ==== Sys2Proof/Syntax.lean ====
section
/-! DEFINITION. The command set (spec 00 R2, 30 R97 to R99): one constructor for each row of spec/opcode_table.json. -/

namespace Sys2Proof

/-- A packet of the protocol. `len` is the advisory `length` byte, which no rule reads (30 R106); `tail` is whatever follows
the bytes a command reads (30 R107). -/
inductive Instr where
  /-- `SET` (R181), format `PKT_SET` (R97): `power` milliwatts, `freq10` tenths of a MHz; `tail` is offsets 7 and up. -/
  | set (len : Byte) (power freq10 : Half) (tail : List Byte)
  /-- `BIND` (R183), format `PKT_BIND` (R98): no operands; `tail` is offsets 3 and up. -/
  | bind (len : Byte) (tail : List Byte)
  /-- `BIND_ACK` (R183), format `PKT_ACK` (R99): the one packet the block emits; held in `TXBUF`, run by the transmitter. -/
  | bindAck
deriving DecidableEq, Repr

/-- On which side of the block an encoding stands (30 R103: `BIND_ACK` "is an output encoding, not a command the block
decodes"): received packets are read from `RXBUF`, the emitted one from `TXBUF`. -/
inductive Channel where
  | received
  | emitted
deriving DecidableEq, Repr

/-- The side on which an instruction's encoding stands. -/
def Instr.channel : Instr → Channel
  | .set _ _ _ _ => .received
  | .bind _ _ => .received
  | .bindAck => .emitted

end Sys2Proof
end

