-- ==== Sys2Proof/WellFormed.lean ====
section
/-! DEFINITION. Which instructions a packet can carry: the length conditions of spec 30 R97, R98 and R103, and the capacity
of the buffer (10 R31). -/

namespace Sys2Proof

/-- How many bytes the packet of an instruction has. -/
def Instr.size : Instr → Nat
  | .set _ _ _ tail => 7 + tail.length
  | .bind _ tail => 3 + tail.length
  | .bindAck => 4

/-- Long enough to be accepted, for `SET` long enough to act (R103), and short enough for `RXBUF` (R31). The emitted packet
has no operands and is always well formed (R99). -/
def Instr.wf (c : Config) : Instr → Bool
  | .set _ _ _ tail =>
    decide (c.minPktLen ≤ 7 + tail.length) && decide (3 + c.setMinPayload ≤ 7 + tail.length) &&
      decide (7 + tail.length ≤ c.rxbufMax)
  | .bind _ tail => decide (c.minPktLen ≤ 3 + tail.length) && decide (3 + tail.length ≤ c.rxbufMax)
  | .bindAck => true

end Sys2Proof
end

