-- ==== Sys2Proof/Decode.lean ====
section
/-! DEFINITION. The Validator's test (spec 42 R171), the command map (30 R103, 43 R180), the operand bytes (30 R100, R101),
and the encoder written from the same layouts (30 R96 to R99). Total on any bytes; what is not a command is rejected by name. -/

namespace Sys2Proof

/-- Why a buffer is no command that acts. -/
inductive Reject where
  /-- fewer than `MIN_PKT_LEN` bytes: `MALFORMED_PACKET(too_short)` (R171) -/
  | tooShort
  /-- the first byte is not `DEV_ADDR`: `MALFORMED_PACKET(wrong_address)` (R171) -/
  | wrongAddress
  /-- a `SET` whose payload is shorter than `SET_MIN_PAYLOAD`: `TRUNCATED_SET` (R182) -/
  | truncatedSet
  /-- a `commandType` that selects nothing: `UNRECOGNISED_COMMAND` (R184) -/
  | unrecognised (commandType : Byte)
  /-- a byte the decoder needs lies outside the buffer (20 R68: cannot happen once the length tests have passed) -/
  | noSuchByte
  /-- the emitted channel holds bytes other than the Bind Acknowledgement (R99) -/
  | notAck
deriving DecidableEq, Repr

/-! ### Byte order (20 R63) and bit order (20 R64) -/

/-- `zext_16(lo) | (zext_16(hi) << 8)` (R100, R101): the byte at the lower offset is the less significant. -/
def le16 (lo hi : Byte) : Half := lo.zeroExtend 16 ||| (hi.zeroExtend 16 <<< 8)

/-- The less significant byte of a 16-bit operand. -/
def loByte (v : Half) : Byte := v.setWidth 8

/-- The more significant byte of a 16-bit operand. -/
def hiByte (v : Half) : Byte := (v >>> 8).setWidth 8

/-- The bit of a byte that the n-th cell on the line carries (R64). -/
def bitIndex (o : BitOrder) (n : Nat) : Nat :=
  match o with
  | .lsbFirst => n
  | .msbFirst => 7 - n

/-- `b[i] <- v`: a byte with one bit replaced (R125). -/
def setBit (b : Byte) (i : Nat) (v : Bool) : Byte :=
  if v then b ||| BitVec.twoPow 8 i else b &&& ~~~ BitVec.twoPow 8 i

/-- The eight bits of a byte in line order (R64, R152). -/
def bitsOf (o : BitOrder) (b : Byte) : List Bool := (List.range 8).map fun n => b.getLsbD (bitIndex o n)

/-! ### Received packets -/

/-- The Validator's verdict (R171): the length test first, then the address. `none`: accepted. -/
def validate (c : Config) (buf : List Byte) : Option Reject :=
  if buf.length < c.minPktLen then some .tooShort
  else
    match buf with
    | [] => some .noSuchByte
    | a :: _ => if a = c.devAddr then none else some .wrongAddress

/-- The operands of a `SET` (R96, R100, R101): offsets 3 to 6; offset 1 is carried along unread, so are offsets 7 and up. -/
def decodeSet : List Byte → Option Instr
  | _ :: len :: _ :: p0 :: p1 :: f0 :: f1 :: tail => some (.set len (le16 p0 p1) (le16 f0 f1) tail)
  | _ => none

/-- A `BIND` (R98): nothing after offset 2 is read. -/
def decodeBind : List Byte → Option Instr
  | _ :: len :: _ :: tail => some (.bind len tail)
  | _ => none

/-- The Dispatcher's decode (R180) of a buffer the Validator has accepted: offset 2 selects, and a `SET` needs
`SET_MIN_PAYLOAD` payload bytes. It looks at neither offset 0 nor offset 1. -/
def decodeCommand (c : Config) (buf : List Byte) : Except Reject Instr :=
  match buf[2]? with
  | none => .error .noSuchByte
  | some t =>
    if t = c.cmdSet then
      if c.setMinPayload ≤ buf.length - 3 then
        match decodeSet buf with
        | some i => .ok i
        | none => .error .noSuchByte
      else .error .truncatedSet
    else if t = c.cmdBind then
      match decodeBind buf with
      | some i => .ok i
      | none => .error .noSuchByte
    else .error (.unrecognised t)

/-- The command of a received buffer (R103): the Validator's tests, then the Dispatcher's. -/
def decodePacket (c : Config) (buf : List Byte) : Except Reject Instr :=
  match validate c buf with
  | some r => .error r
  | none => decodeCommand c buf

/-- The packet of the transmit registers (R99): exactly the four bytes of the Bind Acknowledgement. -/
def decodeAck (c : Config) (bytes : List Byte) : Except Reject Instr :=
  if bytes = c.ackBytes then .ok .bindAck else .error .notAck

/-- The decoder of each side of the block. -/
def decode (c : Config) (ch : Channel) (bytes : List Byte) : Except Reject Instr :=
  match ch with
  | .received => decodePacket c bytes
  | .emitted => decodeAck c bytes

/-! ### Encoder (R96 to R99, R109) -/

/-- The bytes of a packet in buffer order. -/
def encode (c : Config) : Instr → List Byte
  | .set len power freq10 tail =>
    [c.devAddr, len, c.cmdSet, loByte power, hiByte power, loByte freq10, hiByte freq10] ++ tail
  | .bind len tail => [c.devAddr, len, c.cmdBind] ++ tail
  | .bindAck => c.ackBytes

/-! ### The table's numbering -/

/-- Byte `k` of a number, byte 0 its least significant. -/
def byteOf (w k : Nat) : Byte := BitVec.ofNat 8 (w / 256 ^ k)

/-- The received packet whose first three bytes are the 24-bit word `{RXBUF[0], RXBUF[1], RXBUF[2]}` (R103: offset 0 in bits
23:16) and whose other bytes, up to the eight that every command needs, are 0 (log entry 16). -/
def packetOfWord (w : Nat) : List Byte := [byteOf w 2, byteOf w 1, byteOf w 0, 0, 0, 0, 0, 0]

/-- The transmit registers that the 32-bit word `{TXBUF[0], TXBUF[1], TXBUF[2], TXBUF[3]}` names (R103). -/
def txBytesOfWord (w : Nat) : List Byte := [byteOf w 3, byteOf w 2, byteOf w 1, byteOf w 0]

end Sys2Proof

/-- The instruction the decoder reads from a word of spec/opcode_table.json: its 24-bit rows are received packets, its
32-bit row is the emitted one (30 R103; log entry 16). -/
def Sys2Proof.decodeTableWord (nbits w : Nat) : Option Sys2Proof.Instr :=
  if nbits = 24 then (Sys2Proof.decode {} .received (Sys2Proof.packetOfWord w)).toOption
  else if nbits = 32 then (Sys2Proof.decode {} .emitted (Sys2Proof.txBytesOfWord w)).toOption
  else none
end

