-- ==== Sys2Proof/Machine/State.lean ====
section
/-! DEFINITION. The state of the block (spec 10 R20, every register of it), the environment's part that a closed step needs
(10 R44, 00 R11), the faults and refusals a step can end in, and the state after reset (10 R45). Plain data throughout. -/

namespace Sys2Proof.Machine

/-- The sequencer state `ST` (R21): the block's program counter. Its 18 values, in the order a run first meets them. -/
inductive Seq where
  | bootLoad
  | bootApply
  | bootReport
  | idle
  | rxSettle
  | rxWaitStart
  | rxWaitRise
  | rxSampleDelay
  | rxWaitFall
  | rxByteDone
  | rxDone
  | validate
  | dispatch
  | setExec
  | txSettle
  | txBit
  | txGap
  | sleep
deriving DecidableEq, Repr

/-- The Link Direction `DIR` (R25). -/
inductive Dir where
  | rx
  | tx
deriving DecidableEq, Repr

/-- The five operations of the radio port (44 R201). -/
inductive RadioOp where
  | setFrequency
  | setTxPower
  | setSpreadingFactor
  | setBandwidth
  | setCodingRate
deriving DecidableEq, Repr

/-- What `DIAG_REPORT` carries (44 R204, 45 R222). -/
structure Report where
  freq : Word
  power : Half
  sf : Word
  bw : Word
  cr : Word
deriving DecidableEq, Repr

/-- The three events of the diagnostic port (44 R204). -/
inductive Diag where
  | report (r : Report)
  | malformed
  | persistFail
deriving DecidableEq, Repr

/-- The two causes of `MALFORMED_PACKET` (42 R171). -/
inductive Cause where
  | tooShort
  | wrongAddress
deriving DecidableEq, Repr

/-- The five conditions (60 R250, R251). -/
inductive Condition where
  | transportTimeout
  | malformedPacket (c : Cause)
  | unrecognisedCommand
  | truncatedSet
  | persistWriteFailure
deriving DecidableEq, Repr

/-- What a trace records: the transactions and diagnostics an observer sees (00 R12 (b), (c)), the conditions a model with a
trace appends (60 R262), and the assertion of reset (70 R280). -/
inductive Event where
  | radio (op : RadioOp) (arg : Word)
  | load
  | save (freq : Word) (power : Half)
  | diag (d : Diag)
  | signal (c : Condition)
  | reset
deriving DecidableEq, Repr

/-- One run of a line waveform (30 R110): `H<ticks>` when `level` is true, else `L<ticks>`. -/
structure Run where
  level : Bool
  ticks : Nat
deriving DecidableEq, Repr

/-- The environment's part in one transaction (44 R202, R203, R207). -/
structure Call where
  /-- `T_CALL`; `none`: the transaction never completes (93 U10) -/
  ticks : Option Nat
  /-- a load can read the store -/
  readable : Bool
  /-- a save succeeds -/
  ok : Bool
  /-- a save that does not succeed has nevertheless put the new pair into the store (93 U6) -/
  landed : Bool
deriving DecidableEq, Repr

/-- The state of the machine. The first group is the spec's (R20: "Nothing else is state"); the second is the model's own:
the parameters, the environment (R44) and the trace (R12, R262). -/
structure State where
  /-- `ST` (R21) -/
  st : Seq
  /-- `now` (R24), ticks since reset; unbounded, as R24 allows -/
  now : Nat
  /-- `DIR` (R25) -/
  dir : Dir
  /-- `TXD` (R26), the level in the output latch; high is true -/
  txd : Bool
  /-- `PREV` (R27), the most recent line sample -/
  prev : Bool
  /-- `SHIFT` (R28) -/
  shift : Byte
  /-- `BITCNT` (R29), 4 bits, 0 to 8 -/
  bitcnt : Nat
  /-- `RXBUF` (R31): the cells of the Raw Byte Buffer in canonical form; an unlisted byte reads 0 -/
  rxbuf : List Host.Cell
  /-- `RXLEN` (R32), 9 bits, 0 to `RXBUF_MAX` -/
  rxlen : Nat
  /-- `T_WIN` (R35) -/
  tWin : Nat
  /-- `T_REF` (R36) -/
  tRef : Nat
  /-- `TXBUF` (R33), four byte registers -/
  txbuf : Vector Byte 4
  /-- `TXLEN` (R33), 3 bits -/
  txlen : Nat
  /-- `TXIDX` (R34), 3 bits -/
  txidx : Nat
  /-- `TXBIT` (R34), 4 bits, 0 to 8 -/
  txbit : Nat
  /-- `FREQ` (R37), a binary32 pattern -/
  freq : Word
  /-- `POWER` (R38), milliwatts -/
  power : Half
  /-- `PERSIST_ERR` (R39), sticky -/
  persistErr : Bool
  /-- the model's own: the parameters of R8 and R9, which nothing changes (R40) -/
  cfg : Config
  /-- the model's own: what the persistent store holds (20 R62), `none` when nothing was ever committed -/
  store : Option (Word × Half)
  /-- the model's own: the tick, counted over all resets, at which the latest reset was released -/
  base : Nat
  /-- the model's own: the line waveform from tick 0 on, counted over all resets; past its end `L` is free -/
  line : List Run
  /-- the model's own: the answers of the coming transactions; past their end they are free -/
  calls : List Call
  /-- the model's own: how many transactions were issued so far; names the next free answer -/
  callNo : Nat
  /-- the model's own: the transaction in which the block is stuck, issued and never to complete (44 R207, 93 U10); `none`: the
  block is not stuck -/
  hung : Option Event
  /-- the model's own: the ticks, counted over all resets, at which `rst` is going to be asserted (44 R208) -/
  resets : List Nat
  /-- the model's own: the events so far, oldest first, each with the value of `now` at which it was issued -/
  trace : List (Nat × Event)
deriving DecidableEq, Repr

/-- Why a step stops. Each is safe: the model claims nothing of what the block would do there. -/
inductive Fault where
  /-- A rule reads or writes `RXBUF` outside the bytes that exist (20 R68: "a model should make it unrepresentable or a
  fault"). Raised by `VALIDATE`, `DISPATCH`, `SET_EXEC` and `RX_BYTE_DONE`, in no state a run reaches. Safe. -/
  | rxbufOutOfRange
  /-- `LOADBIT` reads outside the four bytes of `TXBUF` or the bits of a byte. Raised by the transmitter, in no state a run
  reaches. Safe. -/
  | txbufOutOfRange
  /-- `RX_SAMPLE_DELAY` would write a bit of `SHIFT` beyond the eighth. In no state a run reaches. Safe. -/
  | shiftOutOfRange
deriving DecidableEq, Repr

/-- Why a step refuses. -/
inductive Refusal where
  /-- The instruction has no meaning in this model. Raised by no arm. Safe. -/
  | notModelled (mnemonic : String)
deriving DecidableEq, Repr

/-- What one step, or one rule, answers. -/
abbrev Out := Host.Outcome State Fault Refusal

/-- The state when reset is released (R45, R281). The registers R45 leaves unspecified hold 0 (log entry 1); the environment
lists nothing, so the line and the answers are free, and the store holds what `Config.initialStore` says. -/
def State.reset : State where
  st := .bootLoad
  now := 0
  dir := .rx
  txd := true
  prev := false
  shift := 0
  bitcnt := 0
  rxbuf := []
  rxlen := 0
  tWin := 0
  tRef := 0
  txbuf := #v[0, 0, 0, 0]
  txlen := 0
  txidx := 0
  txbit := 0
  freq := 0
  power := 0
  persistErr := false
  cfg := {}
  store := Config.initialStore
  base := 0
  line := []
  calls := []
  callNo := 0
  hung := none
  resets := []
  trace := []

end Sys2Proof.Machine
end

