-- ==== Sys2Proof/Machine/Ops.lean ====
section
/-! DEFINITION. The named operations the rules share: the bytes of `RXBUF`, the line and the clock, one blocking
transaction, reset, signalling a condition, and entering `SLEEP`, `RECEIVE` and `TRANSMIT`. -/

namespace Sys2Proof.Machine

/-- `ST <- q` (R15: the block's only jump). -/
def State.goto (s : State) (q : Seq) : State := { s with st := q }

/-! ### Memory: the cells of `RXBUF` (20 R60) -/

/-- What a byte of `RXBUF` that no rule has written reads as (10 R45 leaves it unspecified; log entry 2). -/
def blankByte : Byte := 0

/-- Read one byte. -/
def memRead : List Host.Cell → Nat → Byte
  | [], _ => blankByte
  | (a, b) :: m, i => if a = i then b else memRead m i

/-- A cell in front of a memory, left out when it holds what an unlisted address reads as. -/
def memCons (i : Nat) (v : Byte) (m : List Host.Cell) : List Host.Cell :=
  if v = blankByte then m else (i, v) :: m

/-- Write one byte, keeping the canonical form. -/
def memWrite : List Host.Cell → Nat → Byte → List Host.Cell
  | [], i, v => memCons i v []
  | (a, b) :: m, i, v =>
    if i < a then memCons i v ((a, b) :: m)
    else if i = a then memCons i v m
    else (a, b) :: memWrite m i v

/-- The canonical form: addresses strictly rise, and no cell holds what an unlisted address reads as. -/
def Memory.wf : List Host.Cell → Bool
  | [] => true
  | (a, b) :: m => m.all (fun c => decide (a < c.1)) && b != blankByte && Memory.wf m

/-- The bytes `RXBUF[0..RXLEN)` (R31): all that any rule may read (20 R68). -/
def State.buffer (s : State) : List Byte := (List.range s.rxlen).map (memRead s.rxbuf)

/-- `RXBUF[RXLEN] <- v ; RXLEN <- RXLEN + 1` (40 R127). -/
def State.append (s : State) (v : Byte) : State :=
  { s with rxbuf := memWrite s.rxbuf s.rxlen v, rxlen := s.rxlen + 1 }

/-! ### The clock and the line -/

/-- The tick counted over all resets, at which `L` and `rst` are looked up. -/
def State.wall (s : State) : Nat := s.base + s.now

/-- The level a waveform gives at a tick (30 R110); `none` after its last run. -/
def levelAt : List Run → Nat → Option Bool
  | [], _ => none
  | r :: rs, t => if t < r.ticks then some r.level else levelAt rs (t - r.ticks)

/-- `L(t)` (00 R16): what the line peer puts on the line at tick `t` of the present reset; free where the state lists no
waveform (20 R78). -/
def State.levelOn (s : State) (t : Nat) : Bool :=
  match levelAt s.line (s.base + t) with
  | some b => b
  | none => Config.lineLevel (s.base + t)

/-- `L(now)`: the sample a rule takes. -/
def State.level (s : State) : Bool := s.levelOn s.now

/-- `now <- now + 1` at the end of a tick-state evaluation that does not sample (R22). -/
def State.tick (s : State) : State := { s with now := s.now + 1 }

/-- The tick that a line sample consumes (`POLL`, D3). With `POLL` other than 1 a sample is still one evaluation, so a reset
asserted within its ticks is taken at the sample's end; the model's choice, log entry 11. -/
def State.sampleTick (s : State) : State := { s with now := s.now + s.cfg.poll }

/-! ### Reset (70 R280, R281) -/

/-- Whether `rst` is asserted at or before the tick that lies `n` ticks ahead. -/
def State.resetWithin (s : State) (n : Nat) : Bool :=
  match s.resets with
  | [] => false
  | r :: _ => decide (r ≤ s.wall + n)

/-- Whether `rst` is asserted now. -/
def State.resetDue (s : State) : Bool := s.resetWithin 0

/-- The tick, counted over all resets, at which the coming reset is taken: never before the present one. So the tick of a
reset asserted within the ticks of one line sample (`POLL` other than 1) is the sample's end; the model's choice, log entry
11. -/
def State.resetAt (s : State) : Nat := max (s.resets.headD 0) s.wall

/-- Reset: whatever the block was doing is abandoned (R280), its state is that of R45, and the store's content stays as it is
(R281, R284). The parameters and the environment are not the block's to reset. -/
def State.takeReset (s : State) : State :=
  { State.reset with
    cfg := s.cfg
    store := s.store
    base := s.resetAt
    line := s.line
    calls := s.calls
    callNo := s.callNo
    resets := s.resets.tail
    trace := s.trace ++ [(s.resetAt - s.base, .reset)] }

/-! ### Transactions (44 R200 to R207) -/

/-- The environment's part in the n-th transaction where the state does not list it. Its duration is finite (R207). -/
def freeCall (n : Nat) : Call :=
  { ticks := some (Config.callTicks n), readable := Config.callReadable n, ok := Config.callOk n,
    landed := Config.callLanded n }

/-- The environment's part in the k-th transaction from now, counting from 0. -/
def State.callAt (s : State) (k : Nat) : Call :=
  match s.calls[k]? with
  | some c => c
  | none => freeCall (s.callNo + k)

/-- What the store holds once a transaction is issued but not yet answered: only a save can change it, and it holds the old
pair or the new one, never a mixture (20 R70, R75, 93 U6). -/
def storeIssued (ev : Event) (c : Call) (old : Option (Word × Half)) : Option (Word × Half) :=
  match ev with
  | .save f p => if c.landed then some (f, p) else old
  | _ => old

/-- Issue a transaction: it is recorded at this tick, and the environment's part in it is used up. -/
def State.issue (s : State) (ev : Event) : State :=
  { s with
    trace := s.trace ++ [(s.now, ev)]
    store := storeIssued ev (s.callAt 0) s.store
    calls := s.calls.drop 1
    callNo := s.callNo + 1 }

/-- `now <- now + T_CALL` when the transaction completes (R207). -/
def State.elapse (s : State) (n : Nat) : State := { s with now := s.now + n }

/-- The block is stuck in a transaction that never completes (R207, 93 U10): this tick passes, and every later one will, with
everything done so far kept. Only reset leads out (R297; log entry 4). -/
def State.hang (s : State) (ev : Event) : State := { s with hung := some ev, now := s.now + 1 }

/-- The answer of a save (R203): on success the store holds exactly the pair of the registers, both of it at once. It is the
block's one action on two locations (20 R75). -/
def State.commit (s : State) (ok : Bool) : State :=
  { s with store := if ok then some (s.freq, s.power) else s.store }

/-- `FREQ <- f ; POWER <- p`: the pair is only ever written together (R220, R181). -/
def State.putSettings (s : State) (f : Word) (p : Half) : State := { s with freq := f, power := p }

/-- One blocking transaction (R200, R207), issued only when `live`; `k` is the rest of the rule, given the answer and the
state at completion. A reset asserted before it completes abandons it (R280); one that never completes leaves the block stuck
after issuing it (93 U10), the rule's earlier effects kept. With `live` false nothing happens at all. -/
def transact (live : Bool) (ev : Event) (s : State) (k : Call → State → Out) : Out :=
  match (s.callAt 0).ticks with
  | some n =>
    if s.resetWithin n && live then .next (s.issue ev).takeReset
    else k (s.callAt 0) (if live then (s.issue ev).elapse n else s)
  | none =>
    if live then
      if s.resets.isEmpty then .next ((s.issue ev).hang ev) else .next (s.issue ev).takeReset
    else k (s.callAt 0) s

/-- A rule that issues transactions, evaluated while the block may be stuck in one of them: then only a tick passes (R207). -/
def unlessHung (rule : State → Out) (s : State) : Out :=
  match s.hung with
  | none => rule s
  | some _ => .next s.tick

/-- `radio.<op>(arg)` (R201). -/
def radioCall (op : RadioOp) (arg : Word) (s : State) (k : State → Out) : Out :=
  transact true (.radio op arg) s fun _ t => k t

/-- `diag(event)` (R204), issued only when `live`. -/
def diagCall (live : Bool) (d : Diag) (s : State) (k : State → Out) : Out :=
  transact live (.diag d) s fun _ t => k t

/-- `(found, f, p) <- store.load()` (R202): the pair, or `none` when the store is missing or cannot be read. -/
def loadCall (s : State) (k : Option (Word × Half) → State → Out) : Out :=
  transact true .load s fun c t => k (if c.readable then t.store else none) t

/-- `ok <- store.save(FREQ, POWER)` (R203): on success the store holds exactly this pair. -/
def saveCall (s : State) (k : Bool → State → Out) : Out :=
  transact true (.save s.freq s.power) s fun c t => k c.ok (t.commit c.ok)

/-! ### Conditions (60 R260 to R262): the block's only "exceptions" -/

/-- `signal <Condition>`, when `live`: the condition's name goes on the trace. It writes no register, saves nothing and
transfers no control (R260, R262); there is nothing to return from (R261). -/
def State.signal (s : State) (live : Bool) (c : Condition) : State :=
  { s with trace := if live then s.trace ++ [(s.now, .signal c)] else s.trace }

/-! ### Named entries -/

/-- `ENTER_SLEEP` (46 R234). -/
def State.enterSleep (s : State) : State := { s with tRef := s.now, st := .sleep }

/-- The entry of `RECEIVE` (40 R121). -/
def State.enterReceive (s : State) : State := { s with rxlen := 0, dir := .rx, tRef := s.now, st := .rxSettle }

/-- The entry of `TRANSMIT` (41 R150). -/
def State.enterTransmit (s : State) : State := { s with dir := .tx, tRef := s.now, st := .txSettle }

/-- `TXBUF <- [DEV_ADDR, ACK_LEN_FIELD, CMD_BIND, ACK_STATUS] ; TXLEN <- 4` (43 R183). -/
def State.loadAck (s : State) : State :=
  { s with txbuf := #v[s.cfg.devAddr, s.cfg.ackLenField, s.cfg.cmdBind, s.cfg.ackStatus], txlen := 4 }

/-- The bytes `TXBUF[0..TXLEN)` (R33). -/
def State.txBytes (s : State) : List Byte := s.txbuf.toList.take s.txlen

end Sys2Proof.Machine
end

