-- ==== Sys2Proof/Machine/Flags.lean ====
section
/-! DEFINITION. The one flag (spec 10 R39, R41), the loop state (10 R23), and the output ports (10 R30, 44 R208). The block
has no arithmetic condition codes. -/

namespace Sys2Proof.Machine

/-- `if not ok: PERSIST_ERR <- 1 ; signal PERSIST_WRITE_FAILURE` (43 R181, 60 R256). The flag is sticky: success leaves it. -/
def State.noteSave (s : State) (ok : Bool) : State :=
  { s.signal (!ok) .persistWriteFailure with persistErr := s.persistErr || !ok }

/-- The two states of the source's Main Control Loop (R23). -/
inductive Loop where
  | idle
  | dispatching
deriving DecidableEq, Repr

/-- `LOOP`, a function of `ST`; undefined before the loop has started (R23). -/
def Seq.loop : Seq → Option Loop
  | .bootLoad | .bootApply | .bootReport => none
  | .validate | .dispatch | .setExec | .txSettle | .txBit | .txGap => some .dispatching
  | .idle | .rxSettle | .rxWaitStart | .rxWaitRise | .rxSampleDelay | .rxWaitFall | .rxByteDone | .rxDone | .sleep =>
    some .idle

/-! ### Ports -/

/-- `pin_oe` (R30) as `DIR` stands now; what a tick shows is `State.pinsDuring`. -/
def State.pinOe (s : State) : Bool := decide (s.dir = .tx)

/-- `pin_out` (R30) as `TXD` stands now, meaningful only while `pin_oe` is 1; what a tick shows is `State.pinsDuring`. -/
def State.pinOut (s : State) : Bool := s.txd

/-- `persist_err` (R208) as `PERSIST_ERR` stands now; what a tick shows is `State.portsDuring`. -/
def State.persistErrPort (s : State) : Bool := s.persistErr

/-- `radio_op` (R208). -/
def RadioOp.code : RadioOp → BitVec 3
  | .setFrequency => 0
  | .setTxPower => 1
  | .setSpreadingFactor => 2
  | .setBandwidth => 3
  | .setCodingRate => 4

/-- `diag_code` (R204, R208). -/
def Diag.code : Diag → BitVec 2
  | .report _ => 1
  | .malformed => 2
  | .persistFail => 3

/-- `store_op` (R208) of an event that is a store transaction. -/
def Event.storeOp : Event → Option (BitVec 1)
  | .load => some 0
  | .save _ _ => some 1
  | .radio _ _ | .diag _ | .signal _ | .reset => none

/-- What the three collaborator ports (R208) carry with the request of one transaction. In which ticks a request is asserted
and when its `done` comes is `State.portsDuring`. -/
structure Signals where
  /-- `radio_op` and `radio_arg` -/
  radio : Option (BitVec 3 × Word)
  /-- `store_op` -/
  store : Option (BitVec 1)
  /-- `store_wfreq` and `store_wpower`, meaningful for a save -/
  storeWrite : Option (Word × Half)
  /-- `diag_code` -/
  diag : Option (BitVec 2)
deriving DecidableEq, Repr

/-- The signals of an event of the trace; a condition and a reset are no transactions (R262). -/
def Event.signals (ev : Event) : Signals :=
  match ev with
  | .radio op arg => { radio := some (op.code, arg), store := none, storeWrite := none, diag := none }
  | .load => { radio := none, store := ev.storeOp, storeWrite := none, diag := none }
  | .save f p => { radio := none, store := ev.storeOp, storeWrite := some (f, p), diag := none }
  | .diag d => { radio := none, store := none, storeWrite := none, diag := some d.code }
  | .signal _ | .reset => { radio := none, store := none, storeWrite := none, diag := none }

/-- The condition codes of R251. -/
def Condition.code : Condition → Nat
  | .transportTimeout => 1
  | .malformedPacket _ => 2
  | .unrecognisedCommand => 3
  | .truncatedSet => 4
  | .persistWriteFailure => 5

end Sys2Proof.Machine
end

