-- ==== Sys2Proof/Machine/Operands.lean ====
section
/-! DEFINITION. The conversion of the frequency operand to the register format (spec 43 R187), bit values against line levels
(20 R65), and the bits of a transmitted byte (30 R93, R94). -/

namespace Sys2Proof.Machine

/-! ### `f32_of_tenths` (R187), for the scale `FREQ_SCALE` -/

/-- The least `m`, from the one given on, with `2^23 * scale <= raw * 2^m`: R187's `23 - e`, where
`scale * 2^e <= raw < scale * 2^(e+1)`. -/
def normShift (scale raw : Nat) : Nat → Nat → Nat
  | 0, m => m
  | fuel + 1, m => if 2 ^ 23 * scale ≤ raw * 2 ^ m then m else normShift scale raw fuel (m + 1)

/-- The quotient of `num` by `scale` rounded to nearest, ties to even (R187: `q`, `r`; with `scale` = 10 a tie is `r` = 5). -/
def roundDiv (scale num : Nat) : Nat :=
  if scale < 2 * (num % scale) ∨ (2 * (num % scale) = scale ∧ num / scale % 2 = 1) then num / scale + 1
  else num / scale

/-- The binary32 pattern of `q * 2^(e - 23)`, where `q` has 24 bits or is 2^24 (the carry out of the significand). -/
def packF32 (biased q : Nat) : Word :=
  if q = 2 ^ 24 then BitVec.ofNat 32 ((biased + 1) <<< 23) else BitVec.ofNat 32 (biased <<< 23 ||| (q - 2 ^ 23))

/-- The binary32 number nearest to `raw / scale`, ties to even (R187). -/
def f32OfQuotient (scale : Nat) (raw : Half) : Word :=
  if raw = 0 then 0
  else
    let m := normShift scale raw.toNat 149 0
    packF32 (150 - m) (roundDiv scale (raw.toNat * 2 ^ m))

/-- `f32_of_tenths(raw)` (R187). -/
def f32OfTenths (raw : Half) : Word := f32OfQuotient 10 raw

/-! ### Levels and bits -/

/-- The bit value of a line level, and the level of a bit value (R65; `LINE_ACTIVE_HIGH` of R9; log entry 9). -/
def polarity (c : Config) (v : Bool) : Bool := v == c.lineActiveHigh

/-- The bits driven for one byte: the eight bits in line order (R93), between what the configuration adds (nothing, by D8). -/
def frameBits (c : Config) (b : Byte) : List Bool := c.txFraming.lead ++ bitsOf c.bitOrder b ++ c.txFraming.tail

/-- How many bits one byte takes: 8, by D8. -/
def frameLen (c : Config) : Nat := c.txFraming.lead.length + 8 + c.txFraming.tail.length

/-- The packet view (10 R47). -/
structure Packet where
  deviceAddress : Byte
  length : Byte
  commandType : Byte
  payload : List Byte
deriving DecidableEq, Repr

/-- The CRSF Packet: a view of `RXBUF`, valid in `DISPATCH` and `SET_EXEC` (R47). -/
def State.packet (s : State) : Option Packet :=
  if s.st = .dispatch ∨ s.st = .setExec then
    match s.buffer with
    | a :: l :: c :: p => some { deviceAddress := a, length := l, commandType := c, payload := p }
    | _ => none
  else none

end Sys2Proof.Machine
end

