-- ==== Sys2Proof/Machine/Commands.lean ====
section
/-! DEFINITION. The meanings of the received commands (spec 43 R181, R183). -/

namespace Sys2Proof.Machine

/-- `SET` (R181): the registers, the radio, the store, in this order (20 R73); a failed save is surfaced and not rolled back
(60 R256). The rule of state `SET_EXEC`. -/
def execSet (_len : Byte) (power freq10 : Half) (_tail : List Byte) (s : State) : Out :=
  radioCall .setFrequency (f32OfQuotient s.cfg.freqScale freq10)
    (s.putSettings (f32OfQuotient s.cfg.freqScale freq10) power) fun s1 =>
  radioCall .setTxPower (power.zeroExtend 32) s1 fun s2 =>
  saveCall s2 fun ok s3 =>
  diagCall (!ok) .persistFail (s3.noteSave ok) fun s4 =>
  .next s4.enterSleep

/-- `BIND` (R183): load the acknowledgement and enter `TRANSMIT`. Its arm of state `DISPATCH`. -/
def execBind (_len : Byte) (_tail : List Byte) (s : State) : Out := .next s.loadAck.enterTransmit

end Sys2Proof.Machine
end

