-- ==== Sys2Proof/Machine/Transmit.lean ====
section
/-! DEFINITION. The transmit half of the transport (spec 41): the states of `TRANSMIT`, and the meaning of the packet they
emit, the Bind Acknowledgement. -/

namespace Sys2Proof.Machine

/-- The level of the bit that `TXIDX` and `TXBIT` select (R152). -/
def State.txLevel (s : State) : Option Bool :=
  (s.txbuf[s.txidx]?).bind fun b => ((frameBits s.cfg b)[s.txbit]?).map (polarity s.cfg)

/-- `LOADBIT` (R152), the only writer of `TXD`; then `k`. -/
def loadBit (s : State) (k : State → State) : Out :=
  match s.txLevel with
  | some v => .next (k { s with txd := v, tRef := s.now })
  | none => .fault .txbufOutOfRange

/-- State `TX_SETTLE` (R151). -/
def txSettle (s : State) : Out :=
  if s.now - s.tRef < s.cfg.tSettle then .next s.tick
  else loadBit { s with txidx := 0, txbit := 0 } fun t => { t with st := .txBit }

/-- The level the gap begins with: the latch is held (R94, D8), unless the configuration says otherwise (log entry 12). -/
def State.gapLevel (s : State) : Bool :=
  match s.cfg.txFraming.gap with
  | some v => v
  | none => s.txd

/-- State `TX_BIT` (R152). -/
def txBit (s : State) : Out :=
  if s.now - s.tRef < s.cfg.tBit then .next s.tick
  else if s.txbit + 1 = frameLen s.cfg then
    .next { s with txbit := s.txbit + 1, tRef := s.now, txd := s.gapLevel, st := .txGap }
  else loadBit { s with txbit := s.txbit + 1 } fun t => t

/-- State `TX_GAP` (R153): the gap follows every byte, the last one included. -/
def txGap (s : State) : Out :=
  if s.now - s.tRef < s.cfg.tGap then .next s.tick
  else if s.txidx + 1 = s.txlen then .next ({ s with txidx := s.txidx + 1, txbit := 0 } : State).enterSleep
  else loadBit { s with txidx := s.txidx + 1, txbit := 0 } fun t => { t with st := .txBit }

/-- The transmitter's rule for the state it is in (R151 to R153). In any other state: `TRANSMIT` begins (R183, R150). -/
def transmit (s : State) : Out :=
  match s.st with
  | .txSettle => txSettle s
  | .txBit => txBit s
  | .txGap => txGap s
  | .bootLoad | .bootApply | .bootReport | .idle | .rxSettle | .rxWaitStart | .rxWaitRise | .rxSampleDelay | .rxWaitFall
  | .rxByteDone | .rxDone | .validate | .dispatch | .setExec | .sleep => .next s.loadAck.enterTransmit

/-- `BIND_ACK` (R183, 30 R99): the packet the block emits. It is run by the transmitter, which drives it out bit by bit, one
evaluation of the transmitter's rule a step; where the transmitter is not running, the packet is loaded and `TRANSMIT` begins
(log entry 15). -/
def execBindAck (s : State) : Out := transmit s

end Sys2Proof.Machine
end

