-- ==== Sys2Proof/Machine/Dispatch.lean ====
section
/-! DEFINITION. The meaning of every instruction, by name: one arm for each row of spec/opcode_table.json. -/

namespace Sys2Proof.Machine

def exec (i : Instr) (s : State) : Host.Outcome State Fault Refusal :=
  match i with
  | .set len power freq10 tail => Sys2Proof.Machine.execSet len power freq10 tail s
  | .bind len tail => Sys2Proof.Machine.execBind len tail s
  | .bindAck => Sys2Proof.Machine.execBindAck s

end Sys2Proof.Machine
end

