-- ==== Sys2Proof/Machine/Loop.lean ====
section
/-! DEFINITION. The Main Control Loop (spec 46): the states `IDLE`, `RX_DONE` and `SLEEP`. -/

namespace Sys2Proof.Machine

/-- State `IDLE` (R231). -/
def idleRule (s : State) : Out := .next s.enterReceive

/-- State `RX_DONE` (R232): an empty buffer is not offered to the Validator. -/
def rxDoneRule (s : State) : Out := .next (if s.rxlen = 0 then s.enterSleep else s.goto .validate)

/-- State `SLEEP` (R234). -/
def sleepRule (s : State) : Out := .next (if s.now - s.tRef < s.cfg.tSleep then s.tick else s.goto .idle)

end Sys2Proof.Machine
end

