-- ==== Sys2Proof/Machine/Receive.lean ====
section
/-! DEFINITION. The receive half of the transport (spec 40): one definition for each sequencer state of `RECEIVE`. -/

namespace Sys2Proof.Machine

/-- State `RX_SETTLE` (R122). -/
def rxSettle (s : State) : Out :=
  .next (if s.now - s.tRef < s.cfg.tSettle then s.tick else { s with tWin := s.now, prev := false, st := .rxWaitStart })

/-- Whether the sample `v` opens a byte (R123, D5): a sampled 1 followed by a sampled 0. -/
def State.isStart (s : State) (v : Bool) : Bool :=
  match s.cfg.startDetect with
  | .edge => s.prev && !v
  | .level => !v

/-- State `RX_WAIT_START` (R123): the timeout test comes before the sample. -/
def rxWaitStart (s : State) : Out :=
  .next
    (if s.cfg.tRxto ≤ s.now - s.tWin then (s.signal true .transportTimeout).goto .rxDone
    else if s.isStart s.level then { s.sampleTick with prev := false, shift := 0, bitcnt := 0, st := .rxWaitRise }
    else { s.sampleTick with prev := s.level })

/-- State `RX_WAIT_RISE` (R124): no timeout (R131). -/
def rxWaitRise (s : State) : Out :=
  .next
    (if s.level then { s.sampleTick with prev := true, tRef := s.now, st := .rxSampleDelay }
    else { s.sampleTick with prev := false })

/-- State `RX_SAMPLE_DELAY` (R125): the bit is the level `T_BIT` ticks after the sampled rise. -/
def rxSampleDelay (s : State) : Out :=
  if s.now - s.tRef < s.cfg.tBit then .next s.tick
  else if 8 ≤ s.bitcnt then .fault .shiftOutOfRange
  else
    .next
      { s.sampleTick with
        prev := s.level
        shift := setBit s.shift (bitIndex s.cfg.bitOrder s.bitcnt) (polarity s.cfg s.level)
        bitcnt := s.bitcnt + 1
        st := .rxWaitFall }

/-- State `RX_WAIT_FALL` (R126): no timeout (R131). -/
def rxWaitFall (s : State) : Out :=
  .next
    (if s.level then { s.sampleTick with prev := true }
    else { s.sampleTick with prev := false, st := if s.bitcnt = 8 then .rxByteDone else .rxWaitRise })

/-- State `RX_BYTE_DONE` (R127): append, then the termination heuristic (R128); a full buffer ends the reception (R132). -/
def rxByteDone (s : State) : Out :=
  if s.rxlen = s.cfg.rxbufMax then .next (s.goto .rxDone)
  else if s.cfg.rxbufMax < s.rxlen then .fault .rxbufOutOfRange
  else
    .next
      ((s.append s.shift).goto
        (if s.cfg.termMinLen ≤ s.rxlen + 1 ∧ s.shift = s.cfg.termByte then .rxDone else .rxWaitStart))

end Sys2Proof.Machine
end

