-- ==== Sys2Proof/Machine/Startup.lean ====
section
/-! DEFINITION. The Startup Configuration Sequencer (spec 45): the three `BOOT_*` states. -/

namespace Sys2Proof.Machine

/-- What a load yields (44 R202): the stored pair unchecked, or both defaults, never one of each. -/
def loadedPair (c : Config) (found : Option (Word × Half)) : Word × Half :=
  match found with
  | some p => p
  | none => (c.defFreq, c.defPower)

/-- State `BOOT_LOAD` (R220). -/
def bootLoad (s : State) : Out :=
  loadCall s fun found t =>
  .next ((t.putSettings (loadedPair s.cfg found).1 (loadedPair s.cfg found).2).goto .bootApply)

/-- State `BOOT_APPLY` (R221): five radio operations, each exactly once. -/
def bootApply (s : State) : Out :=
  radioCall .setFrequency s.freq s fun s1 =>
  radioCall .setTxPower (s.power.zeroExtend 32) s1 fun s2 =>
  radioCall .setSpreadingFactor s.cfg.linkSf s2 fun s3 =>
  radioCall .setBandwidth s.cfg.linkBw s3 fun s4 =>
  radioCall .setCodingRate s.cfg.linkCr s4 fun s5 =>
  .next (s5.goto .bootReport)

/-- What `DIAG_REPORT` carries (R222). -/
def State.reportOf (s : State) : Report :=
  { freq := s.freq, power := s.power, sf := s.cfg.linkSf, bw := s.cfg.linkBw, cr := s.cfg.linkCr }

/-- State `BOOT_REPORT` (R222). -/
def bootReport (s : State) : Out := diagCall true (.report s.reportOf) s fun t => .next (t.goto .idle)

end Sys2Proof.Machine
end

