-- ==== Sys2Proof/Machine/Validator.lean ====
section
/-! DEFINITION. The state `VALIDATE` (spec 42 R171) and what the Dispatcher does with a buffer that is no command that acts
(43 R182, R184). -/

namespace Sys2Proof.Machine

/-- A rejected buffer (R171): the condition, one diagnostic, and the sleep. -/
def rejectMalformed (c : Cause) (s : State) : Out :=
  diagCall true .malformed (s.signal true (.malformedPacket c)) fun t => .next t.enterSleep

/-- A buffer the Dispatcher ignores (R182, R184): the condition is only a name. -/
def ignoreBuffer (c : Condition) (s : State) : Out := .next (s.signal true c).enterSleep

/-- What becomes of a buffer that is rejected by name. -/
def rejectBuffer (r : Reject) (s : State) : Out :=
  match r with
  | .tooShort => rejectMalformed .tooShort s
  | .wrongAddress => rejectMalformed .wrongAddress s
  | .truncatedSet => ignoreBuffer .truncatedSet s
  | .unrecognised _ => ignoreBuffer .unrecognisedCommand s
  | .noSuchByte => .fault .rxbufOutOfRange
  | .notAck => .fault .txbufOutOfRange

/-- State `VALIDATE` (R171). -/
def validateRule (s : State) : Out :=
  match validate s.cfg s.buffer with
  | some r => rejectBuffer r s
  | none => .next (s.goto .dispatch)

end Sys2Proof.Machine
end

