-- ==== Sys2Proof/Machine/Sequencer.lean ====
section
/-! DEFINITION. The sequencer (spec 10 R21, 46 R237): the rule that `ST` selects, and where each instruction is fetched.
`SET` runs in `SET_EXEC` and `BIND` in `DISPATCH`, both read from `RXBUF`; `BIND_ACK` runs in the transmitter's three states,
read from `TXBUF`. -/

namespace Sys2Proof.Machine

/-- State `DISPATCH` (43 R180): a `SET` long enough goes to `SET_EXEC`, a `BIND` runs at once, the rest is ignored. -/
def dispatchRule (s : State) : Out :=
  match decodeCommand s.cfg s.buffer with
  | .ok (.set _ _ _ _) => .next (s.goto .setExec)
  | .ok (.bind len tail) => exec (.bind len tail) s
  | .ok .bindAck => exec .bindAck s
  | .error r => rejectBuffer r s

/-- State `SET_EXEC` (43 R181): the operands are read from `RXBUF`. -/
def setExecRule (s : State) : Out :=
  match decodeSet s.buffer with
  | some i => exec i s
  | none => .fault .rxbufOutOfRange

/-- The transmitter's states (41 R151 to R153). `TXBUF` holds the Bind Acknowledgement whenever a run is in them (10 R33); the
rules are written for any content (R150). -/
def transmitRule (s : State) : Out :=
  match decodeAck s.cfg s.txBytes with
  | .ok i => exec i s
  | .error _ => transmit s

/-- The rule of the state that `ST` holds (R21, R22). The states that issue transactions can be stuck in one (44 R207). -/
def runRule (s : State) : Out :=
  match s.st with
  | .bootLoad => unlessHung bootLoad s
  | .bootApply => unlessHung bootApply s
  | .bootReport => unlessHung bootReport s
  | .idle => idleRule s
  | .rxSettle => rxSettle s
  | .rxWaitStart => rxWaitStart s
  | .rxWaitRise => rxWaitRise s
  | .rxSampleDelay => rxSampleDelay s
  | .rxWaitFall => rxWaitFall s
  | .rxByteDone => rxByteDone s
  | .rxDone => rxDoneRule s
  | .validate => unlessHung validateRule s
  | .dispatch => dispatchRule s
  | .setExec => unlessHung setExecRule s
  | .txSettle => transmitRule s
  | .txBit => transmitRule s
  | .txGap => transmitRule s
  | .sleep => sleepRule s

/-- The instruction that the state of `ST` is about to run, if any; none while the block is stuck in one. -/
def fetch (s : State) : Option Instr :=
  match s.st with
  | .dispatch =>
    match decodeCommand s.cfg s.buffer with
    | .ok (.bind len tail) => some (.bind len tail)
    | .ok (.set _ _ _ _) | .ok .bindAck | .error _ => none
  | .setExec => if s.hung.isSome then none else decodeSet s.buffer
  | .txSettle | .txBit | .txGap => (decodeAck s.cfg s.txBytes).toOption
  | .bootLoad | .bootApply | .bootReport | .idle | .rxSettle | .rxWaitStart | .rxWaitRise | .rxSampleDelay | .rxWaitFall
  | .rxByteDone | .rxDone | .validate | .sleep => none

/-! ### Placing an instruction where it is fetched (log entry 17) -/

/-- The cells of a buffer that holds exactly these bytes. -/
def cellsOf (bytes : List Byte) : List Host.Cell :=
  (bytes.zipIdx.map fun x => (x.2, x.1)).filter fun c => c.2 != blankByte

/-- The sequencer state in which a received buffer runs: `SET` in `SET_EXEC`, `BIND` and what the Dispatcher ignores in
`DISPATCH`, what the Validator rejects in `VALIDATE`. -/
def runsAt (c : Config) (bytes : List Byte) : Seq :=
  match validate c bytes with
  | some _ => .validate
  | none =>
    match decodeCommand c bytes with
    | .ok (.set _ _ _ _) => .setExec
    | .ok (.bind _ _) | .ok .bindAck | .error _ => .dispatch

/-- Put a packet into `RXBUF`, as a receive would, with `ST` at the state that runs it and the block not stuck. -/
def State.placeReceived (s : State) (bytes : List Byte) : State :=
  { s with rxbuf := cellsOf bytes, rxlen := bytes.length, st := runsAt s.cfg bytes, hung := none }

/-- Put four bytes into `TXBUF` and enter `TRANSMIT`, the block not stuck. -/
def State.placeEmitted (s : State) (w : Nat) : State :=
  { s with txbuf := #v[byteOf w 3, byteOf w 2, byteOf w 1, byteOf w 0], txlen := 4, hung := none }.enterTransmit

/-- A reset that is due would come before the instruction: it is taken off the list. -/
def State.holdReset (s : State) : State := { s with resets := if s.resetDue then [] else s.resets }

/-- Place a word of spec/opcode_table.json: its 24-bit rows in `RXBUF`, its 32-bit row in `TXBUF`. -/
def State.placeWord (s : State) (nbits w : Nat) : State :=
  if nbits = 32 then s.holdReset.placeEmitted w else s.holdReset.placeReceived (packetOfWord w)

end Sys2Proof.Machine
end

