-- ==== Sys2Proof/Machine/Step.lean ====
section
/-! DEFINITION. One step of the machine: an asserted reset comes first (spec 70 R280), else the rule `ST` selects runs once. -/

namespace Sys2Proof.Machine

/-- One evaluation. A tick state consumes a tick, an instant state none (10 R22). -/
def step (s : State) : Host.Outcome State Fault Refusal := if s.resetDue then .next s.takeReset else runRule s

/-- The state with an instruction where the next step fetches it (log entry 17). -/
def State.withFetchWord (s : State) (nbits w : Nat) : State := s.placeWord nbits w

end Sys2Proof.Machine
end

