-- ==== Sys2Proof/Machine/Pins.lean ====
section
/-! DEFINITION. What the pin shows during a tick (spec 10 R30, 00 R12 (a)): the values of `DIR` and `TXD` at the moment the
tick is consumed, after every instant state evaluated in that tick has run. -/

namespace Sys2Proof.Machine

/-- The two pin outputs (R30). -/
structure Pins where
  /-- `pin_oe` -/
  oe : Bool
  /-- `pin_out` -/
  out : Bool
deriving DecidableEq, Repr

/-- The pin outputs as `DIR` and `TXD` stand now. -/
def State.pins (s : State) : Pins := { oe := s.pinOe, out := s.pinOut }

/-- The level the block puts on the line: `pin_out` is meaningful only while `pin_oe` is 1, and while it is 0 the block does
not drive the line (R30). -/
def Pins.drives (p : Pins) : Option Bool := if p.oe then some p.out else none

/-- The evaluation that consumes tick `t`, counted over all resets, in the run from a state at or before that tick: the state
it is evaluated in and its successor. `none` when the evaluations given as fuel do not reach the tick. An evaluation consumes
the ticks from its own up to its successor's. -/
def State.evaluationAt : Nat → Nat → State → Option (State × State)
  | 0, _, _ => none
  | k + 1, t, s =>
    if t < s.wall then none
    else
      match step s with
      | .next u => if t < u.wall then some (s, u) else u.evaluationAt k t
      | .fault _ | .refused _ => none

/-- The pins during tick `t`, counted over all resets: those of the state in which the evaluation that consumes it takes place,
because no rule that consumes a tick or issues a transaction writes `DIR` or `TXD` (R22, 44 R207). -/
def State.pinsDuring (k t : Nat) (s : State) : Option Pins := (s.evaluationAt k t).map fun e => e.1.pins

end Sys2Proof.Machine
end

