-- ==== Sys2Proof/Machine/Ports.lean ====
section
/-! DEFINITION. What the output ports show during a tick (spec 44 R207, R208): the requests and completions of the collaborator
transactions, `persist_err` and the pins. A transaction is in flight from the tick that issues it until its `T_CALL` ticks are
over; where within these ticks the handshake signals stand is the model's choice (log entry 28). -/

namespace Sys2Proof.Machine

/-- A signal of a collaborator port that comes with one transaction (R208). -/
inductive Handshake where
  /-- the transaction is issued: `radio_req`, `store_req` or the strobe `diag_req` -/
  | req (ev : Event)
  /-- it completes: `radio_done` or `store_done` -/
  | done (ev : Event)
deriving DecidableEq, Repr

/-- The port a transaction uses (R200). -/
inductive Port where
  | radio
  | store
  | diag
deriving DecidableEq, Repr

/-- The port of an event of the trace; a condition and a reset are no transactions (60 R262). -/
def Event.port : Event → Option Port
  | .radio _ _ => some .radio
  | .load | .save _ _ => some .store
  | .diag _ => some .diag
  | .signal _ | .reset => none

/-- One transaction of an evaluation, with ticks counted since the latest reset. -/
structure Span where
  ev : Event
  /-- the tick that issues it -/
  issued : Nat
  /-- the tick at which it stops being in flight; `none`: it is in flight for ever (93 U10) -/
  ended : Option Nat
  /-- whether it completes then, and is not abandoned to a reset (70 R280) -/
  completes : Bool
deriving DecidableEq, Repr

/-- The transactions among the events of one evaluation, whose last one is over at `finish`. The block never has two in flight
(R200), so each is over when the next event comes. -/
def spansOf : List (Nat × Event) → Option Nat → List Span
  | [], _ => []
  | [(n, ev)], finish =>
    if ev.port.isSome then [{ ev := ev, issued := n, ended := finish, completes := finish.isSome }] else []
  | (n, ev) :: (m, ev') :: es, finish =>
    let rest := spansOf ((m, ev') :: es) finish
    if ev.port.isSome then { ev := ev, issued := n, ended := some m, completes := decide (ev' ≠ .reset) } :: rest else rest

/-- The events that the evaluation from `s` to `u` records. -/
def State.eventsTo (s u : State) : List (Nat × Event) := u.trace.drop s.trace.length

/-- The transactions that the evaluation from `s` to `u` issues. -/
def State.spansTo (s u : State) : List Span := spansOf (s.eventsTo u) (if u.hung.isSome then none else some u.now)

/-- In flight when tick `n` is consumed. -/
def Span.inFlight (p : Span) (n : Nat) : Bool :=
  decide (p.issued ≤ n) &&
    match p.ended with
    | some m => decide (n < m)
    | none => true

/-- The handshakes of a transaction in tick `n`: the diagnostic port has a strobe and no `done` (R208). -/
def Span.handshakes (p : Span) (n : Nat) : List Handshake :=
  (if p.issued = n then [.req p.ev] else []) ++
    if p.completes = true ∧ p.ended = some n ∧ p.ev.port ≠ some .diag then [.done p.ev] else []

/-- The transaction in flight when tick `n` since the latest reset is consumed by the evaluation from `s` to `u`. -/
def State.heldTo (s u : State) (n : Nat) : Option Event :=
  match s.hung with
  | some ev => some ev
  | none => ((s.spansTo u).find? fun p => p.inFlight n).map Span.ev

/-- `persist_err` in that tick: the flag is written when the failed save completes, before the diagnostic (43 R181). -/
def State.persistErrTo (s u : State) (n : Nat) : Bool :=
  s.persistErr || (s.eventsTo u).any fun e => decide (e.1 ≤ n ∧ e.2 = .signal .persistWriteFailure)

/-- The handshakes in tick `t`, counted over all resets, of the run from a state at or before that tick, in their order: several
where transactions take no time. `none` when the evaluations given as fuel do not get past the tick. -/
def State.handshakesIn : Nat → Nat → State → Option (List Handshake)
  | 0, t, s => if t < s.wall then some [] else none
  | k + 1, t, s =>
    if t < s.wall then some []
    else
      match step s with
      | .next u =>
        (u.handshakesIn k t).map fun hs => (s.spansTo u).flatMap (fun p => p.handshakes (t - s.base)) ++ hs
      | .fault _ | .refused _ => none

/-- The output ports during one tick (R208). -/
structure Ports where
  /-- `pin_oe` and `pin_out` -/
  pins : Pins
  /-- `persist_err` -/
  persistErr : Bool
  /-- the transaction in flight when the tick is consumed -/
  held : Option Event
  /-- the handshakes in this tick, in their order -/
  handshakes : List Handshake
deriving DecidableEq, Repr

/-- The output ports during tick `t`, counted over all resets, of the run from a state at or before that tick. -/
def State.portsDuring (k t : Nat) (s : State) : Option Ports :=
  (s.evaluationAt k t).bind fun e =>
    (s.handshakesIn k t).map fun hs =>
      { pins := e.1.pins, persistErr := e.1.persistErrTo e.2 (t - e.1.base), held := e.1.heldTo e.2 (t - e.1.base)
        handshakes := hs }

/-- Whether a transaction of this port is issued in the tick. -/
def Ports.issues (p : Ports) (o : Port) : Bool :=
  p.handshakes.any fun h =>
    match h with
    | .req ev => ev.port == some o
    | .done _ => false

/-- Whether a transaction of this port completes in the tick. -/
def Ports.completes (p : Ports) (o : Port) : Bool :=
  p.handshakes.any fun h =>
    match h with
    | .req _ => false
    | .done ev => ev.port == some o

/-- `radio_req`: asserted from the tick that issues a transaction for as long as it is in flight. -/
def Ports.radioReq (p : Ports) : Bool := p.issues .radio || p.held.bind Event.port == some .radio

/-- `radio_done`: asserted in the tick in which a transaction completes. -/
def Ports.radioDone (p : Ports) : Bool := p.completes .radio

/-- `store_req` -/
def Ports.storeReq (p : Ports) : Bool := p.issues .store || p.held.bind Event.port == some .store

/-- `store_done` -/
def Ports.storeDone (p : Ports) : Bool := p.completes .store

/-- `diag_req`: a strobe, asserted in the tick that issues the event and in no other. -/
def Ports.diagReq (p : Ports) : Bool := p.issues .diag

/-- `radio_op`, `radio_arg`, `store_op`, `store_wfreq`, `store_wpower` and `diag_code`, as each request brings them: those of the
transactions issued in the tick, in their order, and where none is, that of a radio or store transaction still in flight. -/
def Ports.carried (p : Ports) : List Signals :=
  let issued := p.handshakes.filterMap fun h =>
    match h with
    | .req ev => some ev
    | .done _ => none
  (if issued.isEmpty then p.held.toList.filter fun ev => ev.port != some .diag else issued).map Event.signals

end Sys2Proof.Machine
end

