-- ==== Sys2Proof/Safety.lean ====
section
/-! DEFINITION. What claims about the block are made of: runs, the invariant (spec 10 R46), the transition graph (46 R237), the
ticks at which the line is sampled (10 R22, 46 R238), and collaborators that answer (70 R283). -/

namespace Sys2Proof.Machine

/-- `k` evaluations, stopping at the first fault or refusal. -/
def State.run : Nat → State → Out
  | 0, s => .next s
  | k + 1, s =>
    match step s with
    | .next t => t.run k
    | .fault r => .fault r
    | .refused r => .refused r

/-- No reset is coming, and every listed transaction completes (R283 (b) to (d)); the unlisted ones always do. -/
abbrev State.Calm (s : State) : Prop := s.resets = [] ∧ ∀ c ∈ s.calls, c.ticks ≠ none

/-- The ticks a transaction takes. -/
def Call.cost (c : Call) : Nat := c.ticks.getD 0

/-- The states in which the transmitter runs. -/
def Seq.transmitting : Seq → Bool
  | .txSettle | .txBit | .txGap => true
  | .bootLoad | .bootApply | .bootReport | .idle | .rxSettle | .rxWaitStart | .rxWaitRise | .rxSampleDelay | .rxWaitFall
  | .rxByteDone | .rxDone | .validate | .dispatch | .setExec | .sleep => false

/-- The states in which `DIR` may be either: between a command and the next receive (41 R154). -/
def Seq.between : Seq → Bool
  | .idle | .sleep => true
  | .bootLoad | .bootApply | .bootReport | .rxSettle | .rxWaitStart | .rxWaitRise | .rxSampleDelay | .rxWaitFall
  | .rxByteDone | .rxDone | .validate | .dispatch | .setExec | .txSettle | .txBit | .txGap => false

/-- The states that issue transactions: those in which the block can be stuck (44 R207). -/
def Seq.transacts : Seq → Bool
  | .bootLoad | .bootApply | .bootReport | .validate | .setExec => true
  | .idle | .rxSettle | .rxWaitStart | .rxWaitRise | .rxSampleDelay | .rxWaitFall | .rxByteDone | .rxDone | .dispatch
  | .txSettle | .txBit | .txGap | .sleep => false

/-- Whether this evaluation samples the line (10 R22's third column). -/
def State.samples (s : State) : Bool :=
  match s.st with
  | .rxWaitStart => decide (s.now - s.tWin < s.cfg.tRxto)
  | .rxWaitRise | .rxWaitFall => true
  | .rxSampleDelay => decide (s.cfg.tBit ≤ s.now - s.tRef)
  | .bootLoad | .bootApply | .bootReport | .idle | .rxSettle | .rxByteDone | .rxDone | .validate | .dispatch | .setExec
  | .txSettle | .txBit | .txGap | .sleep => false

/-- What holds in every state a run reaches (R46): the parameters make sense, `RXBUF` is in canonical form within its
capacity, the counters stay in range (`TXBIT` up to the bits of one byte, which are 8 by D8), the references lie in the past,
the direction is the one the state needs (R30), the Dispatcher sees only what the Validator accepted, the transmitter holds
the Bind Acknowledgement (R33), and the block is stuck only where it issues transactions (44 R207). -/
abbrev State.Inv (s : State) : Prop :=
  s.cfg.wf = true ∧
  Memory.wf s.rxbuf = true ∧
  (∀ c ∈ s.rxbuf, c.1 < s.cfg.rxbufMax) ∧
  s.rxlen ≤ s.cfg.rxbufMax ∧
  s.bitcnt ≤ 8 ∧
  s.txlen ≤ 4 ∧
  s.txidx ≤ 4 ∧
  s.txbit ≤ frameLen s.cfg ∧
  (s.st = .rxWaitRise ∨ s.st = .rxSampleDelay → s.bitcnt < 8) ∧
  (s.st = .rxByteDone → s.bitcnt = 8) ∧
  s.tWin ≤ s.now ∧
  s.tRef ≤ s.now ∧
  (s.st.between = false → s.dir = if s.st.transmitting then Dir.tx else Dir.rx) ∧
  (s.st = .dispatch ∨ s.st = .setExec → s.cfg.minPktLen ≤ s.rxlen ∧ memRead s.rxbuf 0 = s.cfg.devAddr) ∧
  (s.st = .setExec → 3 + s.cfg.setMinPayload ≤ s.rxlen ∧ memRead s.rxbuf 2 = s.cfg.cmdSet) ∧
  (s.st.transmitting = true → s.txBytes = s.cfg.ackBytes ∧ s.txlen = 4) ∧
  (s.st = .txBit ∨ s.st = .txGap → s.txidx < s.txlen) ∧
  (s.st = .txBit → s.txbit < frameLen s.cfg) ∧
  (s.hung ≠ none → s.st.transacts = true)

/-- The transition graph of `ST` (R237), the row for reset apart. -/
def Seq.edge : Seq → Seq → Bool
  | .bootLoad, t => t == .bootApply
  | .bootApply, t => t == .bootReport
  | .bootReport, t => t == .idle
  | .idle, t => t == .rxSettle
  | .rxSettle, t => t == .rxWaitStart
  | .rxWaitStart, t => t == .rxDone || t == .rxWaitRise
  | .rxWaitRise, t => t == .rxSampleDelay
  | .rxSampleDelay, t => t == .rxWaitFall
  | .rxWaitFall, t => t == .rxWaitRise || t == .rxByteDone
  | .rxByteDone, t => t == .rxWaitStart || t == .rxDone
  | .rxDone, t => t == .sleep || t == .validate
  | .validate, t => t == .sleep || t == .dispatch
  | .dispatch, t => t == .setExec || t == .sleep || t == .txSettle
  | .setExec, t => t == .sleep
  | .txSettle, t => t == .txBit
  | .txBit, t => t == .txBit || t == .txGap
  | .txGap, t => t == .txBit || t == .sleep
  | .sleep, t => t == .idle

/-- An outcome with a change applied to its next state. -/
def Out.mapNext (f : State → State) : Out → Out
  | .next t => .next (f t)
  | .fault r => .fault r
  | .refused r => .refused r

end Sys2Proof.Machine
end

