-- ==== Sys2Proof/Certificates/Slice0/Obligations.lean ====
section
/-! DEFINITION. The statements about the model. Where one writes the next state as `{ s with … }`, that IS the frame: every
register, every byte of `RXBUF` and every other field not named there is unchanged. Statements about one evaluation of a rule
take `s.resetDue = false`: an asserted reset comes first, and has its own statements. -/

open Sys2Proof
open Sys2Proof.Machine

/-! ## Encoding -/

/-- The packets of spec 95 V-ENC-4 and the Bind Acknowledgement (R99) decode to what they stand for, and the three kinds of
buffer that are no command (R104, R105, R107) are rejected by name. -/
def Obligations.WrittenOutPacketsDecode : Prop :=
  decodePacket {} [0xEE, 0x05, 0x10, 0x64, 0x00, 0x62, 0x22, 0x00] = .ok (.set 0x05 100 8802 [0x00]) ∧
  decodePacket {} [0xEE, 0x05, 0x10, 0xE8, 0x03, 0xBE, 0x23, 0x00] = .ok (.set 0x05 1000 9150 [0x00]) ∧
  decodePacket {} [0xEE, 0x02, 0x20, 0x01, 0x02, 0x03] = .ok (.bind 0x02 [0x01, 0x02, 0x03]) ∧
  decodeAck {} [0xEE, 0x02, 0x20, 0x01] = .ok .bindAck ∧
  decodePacket {} [0xEE, 0x02, 0x20] = .error .tooShort ∧
  decodePacket {} [0xC8, 0x05, 0x10, 0x64, 0x00, 0x62, 0x22, 0x00] = .error .wrongAddress ∧
  decodePacket {} [0xEE, 0x05, 0x10, 0x64, 0x00, 0x62, 0x22] = .error .truncatedSet ∧
  decodePacket {} [0xEE, 0x05, 0x30, 0x64, 0x00, 0x62, 0x22, 0x00] = .error (.unrecognised 0x30)

/-- Decoding the encoding of a well-formed instruction gives it back, with every operand, length byte and tail, and for every
parameter set that makes sense. -/
def Obligations.DecodeOfEncodeIsTheInstruction : Prop :=
  ∀ (c : Config) (i : Instr), c.wf = true → i.wf c = true → decode c i.channel (encode c i) = .ok i

/-- The other direction: a received buffer that decodes is the encoding of what it decodes to, is long enough, and is not the
emitted packet. -/
def Obligations.EncodeOfDecodedPacketIsTheBuffer : Prop :=
  ∀ (c : Config) (buf : List Byte) (i : Instr), decodePacket c buf = .ok i →
    encode c i = buf ∧ i.channel = .received ∧ c.minPktLen ≤ i.size

/-- R103: the length, offset 0 and offset 2 alone select the command, and the emitted channel holds `BIND_ACK` exactly when it
holds its four bytes. -/
def Obligations.CommandIsSelectedByLengthAddressAndType : Prop :=
  (∀ buf : List Byte,
    (∃ l p f tl, decodePacket {} buf = .ok (.set l p f tl)) ↔
      8 ≤ buf.length ∧ buf[0]? = some 0xEE ∧ buf[2]? = some 0x10) ∧
  (∀ buf : List Byte,
    (∃ l tl, decodePacket {} buf = .ok (.bind l tl)) ↔
      6 ≤ buf.length ∧ buf[0]? = some 0xEE ∧ buf[2]? = some 0x20) ∧
  (∀ bytes : List Byte, decodeAck {} bytes = .ok .bindAck ↔ bytes = [0xEE, 0x02, 0x20, 0x01])

/-! ## Fetching and running -/

/-- A step runs the decoded instruction: `SET` in `SET_EXEC` and `BIND` in `DISPATCH`, read from `RXBUF`; `BIND_ACK` in the
transmitter's states, read from `TXBUF`; and in `DISPATCH` a `SET` only moves on to `SET_EXEC`. In `SET_EXEC` the block must
not be stuck in a transaction already (`TransactionsTickByTick`). -/
def Obligations.StepRunsTheDecodedInstruction : Prop :=
  ∀ s : State, s.resetDue = false →
    (∀ l p f tl, s.st = .setExec → s.hung = none → decodePacket s.cfg s.buffer = .ok (.set l p f tl) →
      step s = exec (.set l p f tl) s) ∧
    (∀ l tl, s.st = .dispatch → decodePacket s.cfg s.buffer = .ok (.bind l tl) → step s = exec (.bind l tl) s) ∧
    (s.st.transmitting = true → decodeAck s.cfg s.txBytes = .ok .bindAck → step s = exec .bindAck s) ∧
    (∀ l p f tl, s.st = .dispatch → decodePacket s.cfg s.buffer = .ok (.set l p f tl) →
      step s = .next { s with st := .setExec })

/-- A well-formed packet that a receive left in `RXBUF` is accepted, dispatched and run: two evaluations lead `SET` from
`VALIDATE` to its meaning, one leads `BIND` to its own. -/
def Obligations.EncodedPacketIsValidatedDispatchedAndRun : Prop :=
  ∀ s : State, s.st = .validate → s.resets = [] → s.hung = none → s.cfg.wf = true →
    (∀ l p f tl, (Instr.set l p f tl).wf s.cfg = true → s.buffer = encode s.cfg (.set l p f tl) →
      s.run 3 = exec (.set l p f tl) { s with st := .setExec }) ∧
    (∀ l tl, (Instr.bind l tl).wf s.cfg = true → s.buffer = encode s.cfg (.bind l tl) →
      s.run 2 = exec (.bind l tl) { s with st := .dispatch })

/-! ## SET -/

/-- R181 with a save that succeeds: the registers, the two radio operations and the save in this order at the ticks the
transactions take, the pair in the store, and the sleep. -/
def Obligations.SetAppliesAndPersists : Prop :=
  ∀ (s : State) (l : Byte) (p f : Half) (tl : List Byte),
    s.cfg.freqScale = 10 → s.Calm → (s.callAt 2).ok = true →
    exec (.set l p f tl) s =
      .next
        { s with
          power := p
          freq := f32OfTenths f
          store := some (f32OfTenths f, p)
          now := s.now + (s.callAt 0).cost + (s.callAt 1).cost + (s.callAt 2).cost
          tRef := s.now + (s.callAt 0).cost + (s.callAt 1).cost + (s.callAt 2).cost
          st := .sleep
          calls := s.calls.drop 3
          callNo := s.callNo + 3
          trace := s.trace ++
            [(s.now, .radio .setFrequency (f32OfTenths f)),
              (s.now + (s.callAt 0).cost, .radio .setTxPower (p.zeroExtend 32)),
              (s.now + (s.callAt 0).cost + (s.callAt 1).cost, .save (f32OfTenths f) p)] }

/-- R181 and R256 with a save that fails: the new values stay in force, `PERSIST_ERR` is set and one diagnostic is emitted.
What the store then holds is the model's choice (log entry 5, after 93 U6): the old pair, as R70 says, or the new one. -/
def Obligations.SetSurfacesAFailedSave : Prop :=
  ∀ (s : State) (l : Byte) (p f : Half) (tl : List Byte),
    s.cfg.freqScale = 10 → s.Calm → (s.callAt 2).ok = false →
    exec (.set l p f tl) s =
      .next
        { s with
          power := p
          freq := f32OfTenths f
          persistErr := true
          store := if (s.callAt 2).landed then some (f32OfTenths f, p) else s.store
          now := s.now + (s.callAt 0).cost + (s.callAt 1).cost + (s.callAt 2).cost + (s.callAt 3).cost
          tRef := s.now + (s.callAt 0).cost + (s.callAt 1).cost + (s.callAt 2).cost + (s.callAt 3).cost
          st := .sleep
          calls := s.calls.drop 4
          callNo := s.callNo + 4
          trace := s.trace ++
            [(s.now, .radio .setFrequency (f32OfTenths f)),
              (s.now + (s.callAt 0).cost, .radio .setTxPower (p.zeroExtend 32)),
              (s.now + (s.callAt 0).cost + (s.callAt 1).cost, .save (f32OfTenths f) p),
              (s.now + (s.callAt 0).cost + (s.callAt 1).cost + (s.callAt 2).cost, .signal .persistWriteFailure),
              (s.now + (s.callAt 0).cost + (s.callAt 1).cost + (s.callAt 2).cost, .diag .persistFail)] }

/-- R100 to R102: in `SET_EXEC` the operands are assembled little-endian from bytes 3 to 6 of `RXBUF`. -/
def Obligations.SetOperandsAreAssembledLittleEndian : Prop :=
  ∀ s : State, s.st = .setExec → s.resetDue = false → s.hung = none → 7 ≤ s.rxlen →
    step s =
      exec
        (.set (memRead s.rxbuf 1)
          ((memRead s.rxbuf 3).zeroExtend 16 ||| ((memRead s.rxbuf 4).zeroExtend 16 <<< 8))
          ((memRead s.rxbuf 5).zeroExtend 16 ||| ((memRead s.rxbuf 6).zeroExtend 16 <<< 8))
          (s.buffer.drop 7)) s

/-- The source's idempotence property: the same `SET` twice, both saves succeeding, ends with the same settings and the same
stored pair, and the second application issues the same three transactions as the first. -/
def Obligations.SetTwiceIsSetOnce : Prop :=
  ∀ (s t u : State) (l : Byte) (p f : Half) (tl : List Byte),
    s.Calm → (s.callAt 2).ok = true → (s.callAt 5).ok = true →
    exec (.set l p f tl) s = .next t → exec (.set l p f tl) t = .next u →
    u.freq = t.freq ∧ u.power = t.power ∧ u.store = t.store ∧ u.persistErr = s.persistErr ∧
      ∃ es1 es2, t.trace = s.trace ++ es1 ∧ u.trace = t.trace ++ es2 ∧ es1.length = 3 ∧
        es2.map Prod.snd = es1.map Prod.snd

/-- A reset that is asserted while the first transaction of a `SET` is in flight abandons it (R280): the block restarts with the
values R45 states (those it leaves unspecified are not stated), the power was never applied and nothing was saved. That a reset
at the very tick at which the transaction would complete still comes first is the model's choice (log entry 24), and so is that
the reset takes no time, which `t.base = r` states (log entry 6). -/
def Obligations.ResetAbandonsASetInFlight : Prop :=
  ∀ (s : State) (r : Nat) (rs : List Nat) (l : Byte) (p f : Half) (tl : List Byte),
    s.resets = r :: rs → s.wall < r → (∀ n, (s.callAt 0).ticks = some n → r ≤ s.wall + n) →
    ∃ t, exec (.set l p f tl) s = .next t ∧ t.st = .bootLoad ∧ t.now = 0 ∧ t.dir = .rx ∧ t.txd = true ∧
      t.prev = false ∧ t.rxlen = 0 ∧ t.persistErr = false ∧ t.base = r ∧ t.store = s.store ∧ t.resets = rs ∧
      t.trace = s.trace ++
        [(s.now, .radio .setFrequency (f32OfQuotient s.cfg.freqScale f)), (r - s.base, .reset)]

/-- R203: after a `SET` whose save succeeded, a reset and a load that can read the store bring back exactly its pair. -/
def Obligations.SavedPairIsLoadedAfterReset : Prop :=
  ∀ (s : State) (l : Byte) (p f : Half) (tl : List Byte),
    s.cfg.freqScale = 10 → s.Calm → (s.callAt 2).ok = true → (s.callAt 3).readable = true →
    ∃ t v, exec (.set l p f tl) s = .next t ∧ State.run 2 { t with resets := [t.wall] } = .next v ∧
      v.freq = f32OfTenths f ∧ v.power = p ∧ v.st = .bootApply

/-- R187: the pattern is that of the binary32 number nearest to raw / 10. With sign 0, a biased exponent strictly between 0
and 255 and the 24-bit significand `sig`, the value is `sig * 2^(biased - 150)`; ten times it lies within half a unit of the
last place, scaled alike, of `raw`, and at exactly half the significand is even. Zero gives +0.0. -/
def Obligations.TenthsAreRoundedToNearest : Prop :=
  f32OfTenths 0 = 0 ∧
  ∀ raw : Half, raw ≠ 0 →
    let w := (f32OfTenths raw).toNat
    let biased := w / 2 ^ 23
    let sig := 2 ^ 23 + w % 2 ^ 23
    let num := raw.toNat * 2 ^ (150 - biased)
    0 < biased ∧ biased < 150 ∧ 10 * sig ≤ num + 5 ∧ num ≤ 10 * sig + 5 ∧
      (10 * sig = num + 5 ∨ num = 10 * sig + 5 → sig % 2 = 0)

/-! ## BIND and its acknowledgement -/

/-- R183, R150: `BIND` loads the acknowledgement into `TXBUF`, takes the line and starts the settle. Nothing else changes:
no setting, no byte of `RXBUF`, no transaction, no tick. -/
def Obligations.BindLoadsTheAckAndTakesTheLine : Prop :=
  ∀ (s : State) (l : Byte) (tl : List Byte),
    exec (.bind l tl) s =
      .next
        { s with
          txbuf := #v[s.cfg.devAddr, s.cfg.ackLenField, s.cfg.cmdBind, s.cfg.ackStatus]
          txlen := 4
          dir := .tx
          tRef := s.now
          st := .txSettle }

/-- R151: in `TX_SETTLE` the packet waits, then its first bit is driven. -/
def Obligations.AckFirstBitFollowsTheSettle : Prop :=
  ∀ s : State, s.st = .txSettle → s.cfg.txFraming = {} → s.cfg.lineActiveHigh = true →
    (s.now - s.tRef < s.cfg.tSettle → exec .bindAck s = .next { s with now := s.now + 1 }) ∧
    (s.cfg.tSettle ≤ s.now - s.tRef →
      exec .bindAck s =
        .next
          { s with
            txidx := 0
            txbit := 0
            txd := s.txbuf[0].getLsbD (bitIndex s.cfg.bitOrder 0)
            tRef := s.now
            st := .txBit })

/-- R152: in `TX_BIT` a bit is held for `T_BIT` ticks; then the next bit of the byte is driven, or the gap begins with the
latch untouched. -/
def Obligations.AckBitsFollowEachOther : Prop :=
  ∀ s : State, s.st = .txBit → s.cfg.txFraming = {} → s.cfg.lineActiveHigh = true → (hi : s.txidx < 4) → s.txbit < 8 →
    (s.now - s.tRef < s.cfg.tBit → exec .bindAck s = .next { s with now := s.now + 1 }) ∧
    (s.cfg.tBit ≤ s.now - s.tRef → s.txbit < 7 →
      exec .bindAck s =
        .next
          { s with
            txbit := s.txbit + 1
            txd := (s.txbuf[s.txidx]).getLsbD (bitIndex s.cfg.bitOrder (s.txbit + 1))
            tRef := s.now }) ∧
    (s.cfg.tBit ≤ s.now - s.tRef → s.txbit = 7 →
      exec .bindAck s = .next { s with txbit := 8, tRef := s.now, st := .txGap })

/-- R153: in `TX_GAP` the gap is held for `T_GAP` ticks; then the next byte begins, or after the last one the sleep. -/
def Obligations.AckBytesFollowEachOther : Prop :=
  ∀ s : State, s.st = .txGap → s.cfg.txFraming = {} → s.cfg.lineActiveHigh = true →
    (s.now - s.tRef < s.cfg.tGap → exec .bindAck s = .next { s with now := s.now + 1 }) ∧
    (s.cfg.tGap ≤ s.now - s.tRef → s.txidx + 1 = s.txlen →
      exec .bindAck s = .next { s with txidx := s.txidx + 1, txbit := 0, tRef := s.now, st := .sleep }) ∧
    (s.cfg.tGap ≤ s.now - s.tRef → s.txidx + 1 ≠ s.txlen → (hi : s.txidx + 1 < 4) →
      exec .bindAck s =
        .next
          { s with
            txidx := s.txidx + 1
            txbit := 0
            txd := (s.txbuf[s.txidx + 1]).getLsbD (bitIndex s.cfg.bitOrder 0)
            tRef := s.now
            st := .txBit })

/-- The model's choice (log entry 15): where the transmitter is not running, `BIND_ACK` loads the packet and begins
`TRANSMIT`. -/
def Obligations.AckBeginsWhereNothingIsSent : Prop :=
  ∀ s : State, s.st.transmitting = false →
    exec .bindAck s =
      .next
        { s with
          txbuf := #v[s.cfg.devAddr, s.cfg.ackLenField, s.cfg.cmdBind, s.cfg.ackStatus]
          txlen := 4
          dir := .tx
          tRef := s.now
          st := .txSettle }

/-- R155, R154: the whole acknowledgement takes exactly `T_SETTLE` and four times eight `T_BIT` and a `T_GAP` from the entry of
`TRANSMIT`, which is 12256 ticks with the parameters of R8; then the block sleeps, still driving the line at the level of the
last bit. Nothing is changed but the transmitter's own registers and the clock. -/
def Obligations.AckTakes12256Ticks : Prop :=
  ∀ s : State, s.st = .txSettle → s.tRef = s.now → s.resets = [] → s.txlen = 4 →
    s.cfg.txFraming = {} → s.cfg.lineActiveHigh = true →
    (∃ k, s.run k =
      .next
        { s with
          now := s.now + (s.cfg.tSettle + 4 * (8 * s.cfg.tBit + s.cfg.tGap))
          tRef := s.now + (s.cfg.tSettle + 4 * (8 * s.cfg.tBit + s.cfg.tGap))
          txidx := 4
          txbit := 0
          txd := s.txbuf[3].getLsbD (bitIndex s.cfg.bitOrder 7)
          st := .sleep }) ∧
    (s.cfg = {} → s.cfg.tSettle + 4 * (8 * s.cfg.tBit + s.cfg.tGap) = 12256)

/-- R152's net effect: bit `n` of byte `j` is driven in each of the `T_BIT` ticks that begin
`T_SETTLE + j (8 T_BIT + T_GAP) + n T_BIT` after the entry of `TRANSMIT` (10000 + 564 j + 58 n with the parameters of R8). -/
def Obligations.AckBitScheduleIsTheWaveform : Prop :=
  ∀ s : State, s.st = .txSettle → s.tRef = s.now → s.resets = [] → s.dir = .tx → s.txlen = 4 →
    s.cfg.txFraming = {} → s.cfg.lineActiveHigh = true →
    ∀ (j n d : Nat) (hj : j < 4), n < 8 → d < s.cfg.tBit →
      ∃ k t, s.run k = .next t ∧ t.st = .txBit ∧ t.txidx = j ∧ t.txbit = n ∧
        t.now = s.now + (s.cfg.tSettle + (8 * s.cfg.tBit + s.cfg.tGap) * j + s.cfg.tBit * n + d) ∧
        t.pinOe = true ∧ t.pinOut = (s.txbuf[j]).getLsbD (bitIndex s.cfg.bitOrder n)

/-- R292, R236: from the dispatch of a `BIND` the block drives the line without a break through the acknowledgement and the
sleep, 112256 ticks with the parameters of R8, and is then at `IDLE` again; no setting changed and no transaction was
issued. -/
def Obligations.BindHoldsTheLineUntilIdle : Prop :=
  ∀ (s : State) (l : Byte) (tl : List Byte), s.st = .dispatch → s.resets = [] →
    s.cfg.txFraming = {} → s.cfg.lineActiveHigh = true → decodePacket s.cfg s.buffer = .ok (.bind l tl) →
    (∃ k t, s.run k = .next t ∧ t.st = .idle ∧
      t.now = s.now + (s.cfg.tSettle + 4 * (8 * s.cfg.tBit + s.cfg.tGap) + s.cfg.tSleep) ∧
      t.txd = s.cfg.ackStatus.getLsbD (bitIndex s.cfg.bitOrder 7) ∧ t.freq = s.freq ∧ t.power = s.power ∧
      t.persistErr = s.persistErr ∧ t.trace = s.trace ∧
      ∀ j u, 1 ≤ j → j ≤ k → s.run j = .next u → u.pinOe = true) ∧
    (s.cfg = {} →
      s.cfg.tSettle + 4 * (8 * s.cfg.tBit + s.cfg.tGap) + s.cfg.tSleep = 112256 ∧
        s.cfg.ackStatus.getLsbD (bitIndex s.cfg.bitOrder 7) = false)

/-- The frames of the three instructions, when no reset interrupts them: none touches `RXBUF`, the receiver's registers or the
parameters; `SET` touches nothing of the pin and the transmitter; `BIND` and `BIND_ACK` touch no setting, no flag, not the
store, and issue nothing; `BIND` takes no time and leaves the latch. -/
def Obligations.InstructionsLeaveTheRestAlone : Prop :=
  ∀ (i : Instr) (s t : State), s.resets = [] → exec i s = .next t →
    (∀ a, memRead t.rxbuf a = memRead s.rxbuf a) ∧ t.rxlen = s.rxlen ∧ t.prev = s.prev ∧ t.shift = s.shift ∧
      t.bitcnt = s.bitcnt ∧ t.tWin = s.tWin ∧ t.cfg = s.cfg ∧ t.base = s.base ∧ t.line = s.line ∧
    (match i with
    | .set _ _ _ _ =>
      t.dir = s.dir ∧ t.txd = s.txd ∧ t.txbuf = s.txbuf ∧ t.txlen = s.txlen ∧ t.txidx = s.txidx ∧ t.txbit = s.txbit
    | .bind _ _ =>
      t.freq = s.freq ∧ t.power = s.power ∧ t.persistErr = s.persistErr ∧ t.store = s.store ∧ t.trace = s.trace ∧
        t.callNo = s.callNo ∧ t.now = s.now ∧ t.txd = s.txd ∧ t.txidx = s.txidx ∧ t.txbit = s.txbit
    | .bindAck =>
      t.freq = s.freq ∧ t.power = s.power ∧ t.persistErr = s.persistErr ∧ t.store = s.store ∧ t.trace = s.trace ∧
        t.callNo = s.callNo)

/-! ## Receive -/

/-- R121, R231: `IDLE` empties the buffer, releases the line and starts the settle. -/
def Obligations.IdleEntersReceive : Prop :=
  ∀ s : State, s.st = .idle → s.resetDue = false →
    step s = .next { s with rxlen := 0, dir := .rx, tRef := s.now, st := .rxSettle }

/-- R122: the receive settle lasts exactly `T_SETTLE` ticks, samples nothing, and opens the window. -/
def Obligations.ReceiveSettleLastsExactly : Prop :=
  ∀ s : State, s.st = .rxSettle → s.resets = [] → s.tRef = s.now →
    (∀ k, k ≤ s.cfg.tSettle → s.run k = .next { s with now := s.now + k }) ∧
    s.run (s.cfg.tSettle + 1) =
      .next
        { s with
          now := s.now + s.cfg.tSettle
          tWin := s.now + s.cfg.tSettle
          prev := false
          st := .rxWaitStart }

/-- R123: the close of the window comes before the sample; a start is a sampled 1 followed by a sampled 0. -/
def Obligations.StartNeedsAFallingEdgeInTheWindow : Prop :=
  ∀ s : State, s.st = .rxWaitStart → s.resetDue = false → s.cfg.startDetect = .edge → s.cfg.poll = 1 →
    (s.cfg.tRxto ≤ s.now - s.tWin →
      step s = .next { s with st := .rxDone, trace := s.trace ++ [(s.now, .signal .transportTimeout)] }) ∧
    (s.now - s.tWin < s.cfg.tRxto → s.prev = true → s.level = false →
      step s =
        .next { s with prev := false, shift := 0, bitcnt := 0, st := .rxWaitRise, now := s.now + 1 }) ∧
    (s.now - s.tWin < s.cfg.tRxto → ¬(s.prev = true ∧ s.level = false) →
      step s = .next { s with prev := s.level, now := s.now + 1 })

/-- R124, R126: `RX_WAIT_RISE` and `RX_WAIT_FALL` sample every tick and leave only on a high, or a low, level; the eighth fall
ends the byte. -/
def Obligations.RiseAndFallAreAwaited : Prop :=
  ∀ s : State, s.resetDue = false → s.cfg.poll = 1 →
    (s.st = .rxWaitRise → s.level = true →
      step s = .next { s with prev := true, tRef := s.now, st := .rxSampleDelay, now := s.now + 1 }) ∧
    (s.st = .rxWaitRise → s.level = false → step s = .next { s with prev := false, now := s.now + 1 }) ∧
    (s.st = .rxWaitFall → s.level = true → step s = .next { s with prev := true, now := s.now + 1 }) ∧
    (s.st = .rxWaitFall → s.level = false →
      step s =
        .next
          { s with prev := false, st := if s.bitcnt = 8 then .rxByteDone else .rxWaitRise, now := s.now + 1 })

/-- R125: the bit is the level of the line exactly 58 ticks after the sampled rise, whatever the line does in between; it goes
to the bit of `SHIFT` that `BITCNT` and the bit order name. -/
def Obligations.BitIsTheLevel58TicksAfterTheRise : Prop :=
  ∀ (s : State) (o : BitOrder), s.st = .rxWaitRise → s.resets = [] → s.cfg = { bitOrder := o } → s.bitcnt < 8 →
    s.level = true →
    ∃ u, s.run 59 = .next u ∧ u.st = .rxWaitFall ∧ u.now = s.now + 59 ∧ u.bitcnt = s.bitcnt + 1 ∧
      u.prev = s.levelOn (s.now + 58) ∧
      (∀ j, u.shift.getLsbD j =
        if j = bitIndex o s.bitcnt then s.levelOn (s.now + 58) else s.shift.getLsbD j) ∧
      { u with st := s.st, now := s.now, bitcnt := s.bitcnt, prev := s.prev, shift := s.shift, tRef := s.tRef } = s

/-- R127, R128: the byte is appended, and reception ends when eight or more bytes are there and the last is zero; a full
buffer ends it without storing the byte. -/
def Obligations.ByteIsAppendedAndMayTerminate : Prop :=
  ∀ s : State, s.st = .rxByteDone → s.resetDue = false → Memory.wf s.rxbuf = true →
    (s.rxlen < s.cfg.rxbufMax →
      ∃ t, step s = .next t ∧ t.buffer = s.buffer ++ [s.shift] ∧ t.rxlen = s.rxlen + 1 ∧
        t.st = (if s.cfg.termMinLen ≤ s.rxlen + 1 ∧ s.shift = s.cfg.termByte then .rxDone else .rxWaitStart) ∧
        (∀ a, a ≠ s.rxlen → memRead t.rxbuf a = memRead s.rxbuf a) ∧
        { t with rxbuf := s.rxbuf, rxlen := s.rxlen, st := s.st } = s) ∧
    (s.rxlen = s.cfg.rxbufMax → step s = .next { s with st := .rxDone })

/-- R130: a receive entered on a line that stays at one level, high or low, is over exactly `T_SETTLE + T_RXTO` ticks later
(110000 with the parameters of R8) with an empty buffer, and not before. -/
def Obligations.SilentLineTimesOut : Prop :=
  ∀ (s : State) (b : Bool), s.st = .idle → s.resets = [] → s.cfg.poll = 1 → s.cfg.startDetect = .edge →
    0 < s.cfg.tRxto →
    (∀ t, s.now + s.cfg.tSettle ≤ t → t < s.now + s.cfg.tSettle + s.cfg.tRxto → s.levelOn t = b) →
    (∀ j, j < s.cfg.tSettle + s.cfg.tRxto + 3 → ∃ u, s.run j = .next u ∧ u.st ≠ .rxDone) ∧
    s.run (s.cfg.tSettle + s.cfg.tRxto + 3) =
      .next
        { s with
          rxlen := 0
          dir := .rx
          tRef := s.now
          tWin := s.now + s.cfg.tSettle
          prev := b
          now := s.now + s.cfg.tSettle + s.cfg.tRxto
          st := .rxDone
          trace := s.trace ++ [(s.now + s.cfg.tSettle + s.cfg.tRxto, .signal .transportTimeout)] }

/-- R131, R270: a line that stays low after a start, or high after a rise, holds the block where it is for as long as it does;
nothing is signalled. -/
def Obligations.StuckLineHangs : Prop :=
  ∀ (s : State) (n : Nat), s.resets = [] → s.cfg.poll = 1 →
    (s.st = .rxWaitRise → (∀ t, s.now ≤ t → t < s.now + n → s.levelOn t = false) →
      s.run n = .next { s with now := s.now + n, prev := if n = 0 then s.prev else false }) ∧
    (s.st = .rxWaitFall → (∀ t, s.now ≤ t → t < s.now + n → s.levelOn t = true) →
      s.run n = .next { s with now := s.now + n, prev := if n = 0 then s.prev else true })

/-- R133: the whole byte. With the rises `r` and the falls `f` that the rule describes, bit `k` of the byte is the level at
`r k + 58`, and the byte is complete in tick `f 7 + 1`; nothing but the receiver's own registers and the clock changes. -/
def Obligations.ReceivedByteIsTheLevelsAfterTheRises : Prop :=
  ∀ (s : State) (r f : Nat → Nat), s.st = .rxWaitRise → s.bitcnt = 0 → s.resets = [] → s.cfg = {} →
    s.now ≤ r 0 → (∀ t, s.now ≤ t → t < r 0 → s.levelOn t = false) →
    (∀ k, k < 7 → f k + 1 ≤ r (k + 1) ∧ ∀ t, f k + 1 ≤ t → t < r (k + 1) → s.levelOn t = false) →
    (∀ k, k < 8 → s.levelOn (r k) = true) →
    (∀ k, k < 8 → r k + 59 ≤ f k ∧ s.levelOn (f k) = false ∧ ∀ t, r k + 59 ≤ t → t < f k → s.levelOn t = true) →
    ∃ n u, s.run n = .next u ∧ u.st = .rxByteDone ∧ u.now = f 7 + 1 ∧ u.bitcnt = 8 ∧
      (∀ k, k < 8 → u.shift.getLsbD k = s.levelOn (r k + 58)) ∧
      { u with st := s.st, now := s.now, prev := s.prev, shift := s.shift, bitcnt := s.bitcnt, tRef := s.tRef } = s

/-! ## Validator, Dispatcher, loop -/

/-- R171: the length test first, then the address; a rejected buffer costs one diagnostic and the sleep, an accepted one goes
to the Dispatcher. -/
def Obligations.ValidatorRejectsShortOrForeignBuffers : Prop :=
  ∀ s : State, s.st = .validate → s.Calm → s.hung = none → 0 < s.rxlen →
    (s.rxlen < s.cfg.minPktLen →
      step s =
        .next
          { s with
            now := s.now + (s.callAt 0).cost
            tRef := s.now + (s.callAt 0).cost
            st := .sleep
            calls := s.calls.drop 1
            callNo := s.callNo + 1
            trace := s.trace ++ [(s.now, .signal (.malformedPacket .tooShort)), (s.now, .diag .malformed)] }) ∧
    (s.cfg.minPktLen ≤ s.rxlen → memRead s.rxbuf 0 ≠ s.cfg.devAddr →
      step s =
        .next
          { s with
            now := s.now + (s.callAt 0).cost
            tRef := s.now + (s.callAt 0).cost
            st := .sleep
            calls := s.calls.drop 1
            callNo := s.callNo + 1
            trace := s.trace ++ [(s.now, .signal (.malformedPacket .wrongAddress)), (s.now, .diag .malformed)] }) ∧
    (s.cfg.minPktLen ≤ s.rxlen → memRead s.rxbuf 0 = s.cfg.devAddr → step s = .next { s with st := .dispatch })

/-- R180, R182, R184: the four arms of the Dispatcher, with the parameters of R8. -/
def Obligations.DispatcherHasFourArms : Prop :=
  ∀ s : State, s.st = .dispatch → s.resetDue = false → s.cfg = {} → 6 ≤ s.rxlen →
    (memRead s.rxbuf 2 = 0x10 → 8 ≤ s.rxlen → step s = .next { s with st := .setExec }) ∧
    (memRead s.rxbuf 2 = 0x10 → s.rxlen < 8 →
      step s =
        .next { s with tRef := s.now, st := .sleep, trace := s.trace ++ [(s.now, .signal .truncatedSet)] }) ∧
    (memRead s.rxbuf 2 = 0x20 →
      step s =
        .next { s with txbuf := #v[0xEE, 0x02, 0x20, 0x01], txlen := 4, dir := .tx, tRef := s.now, st := .txSettle }) ∧
    (memRead s.rxbuf 2 ≠ 0x10 → memRead s.rxbuf 2 ≠ 0x20 →
      step s =
        .next { s with tRef := s.now, st := .sleep, trace := s.trace ++ [(s.now, .signal .unrecognisedCommand)] })

/-- R232, R174: an empty buffer goes straight to the sleep, any other to the Validator. -/
def Obligations.EmptyBufferSkipsTheValidator : Prop :=
  ∀ s : State, s.st = .rxDone → s.resetDue = false →
    (s.rxlen = 0 → step s = .next { s with tRef := s.now, st := .sleep }) ∧
    (s.rxlen ≠ 0 → step s = .next { s with st := .validate })

/-- R234: `ENTER_SLEEP` starts the sleep, which lasts exactly `T_SLEEP` ticks and leaves everything else, then `IDLE`. -/
def Obligations.SleepLastsExactly : Prop :=
  (∀ s : State, s.enterSleep = { s with tRef := s.now, st := .sleep }) ∧
  ∀ s : State, s.st = .sleep → s.resets = [] → s.tRef = s.now →
    (∀ k, k ≤ s.cfg.tSleep → s.run k = .next { s with now := s.now + k }) ∧
    s.run (s.cfg.tSleep + 1) = .next { s with now := s.now + s.cfg.tSleep, st := .idle }

/-- R236: on a line that stays at one level the loop comes back to `IDLE` after exactly `T_SETTLE + T_RXTO + T_SLEEP` ticks,
210000 with the parameters of R8; one timeout is named, no transaction is issued, no setting changes. -/
def Obligations.IdleCycleTakes210000Ticks : Prop :=
  ∀ (s : State) (b : Bool), s.st = .idle → s.resets = [] → s.cfg.poll = 1 → s.cfg.startDetect = .edge →
    0 < s.cfg.tRxto →
    (∀ t, s.now + s.cfg.tSettle ≤ t → t < s.now + s.cfg.tSettle + s.cfg.tRxto → s.levelOn t = b) →
    (∃ k, s.run k =
      .next
        { s with
          rxlen := 0
          dir := .rx
          tRef := s.now + s.cfg.tSettle + s.cfg.tRxto
          tWin := s.now + s.cfg.tSettle
          prev := b
          now := s.now + s.cfg.tSettle + s.cfg.tRxto + s.cfg.tSleep
          trace := s.trace ++ [(s.now + s.cfg.tSettle + s.cfg.tRxto, .signal .transportTimeout)] }) ∧
    (s.cfg = {} → s.cfg.tSettle + s.cfg.tRxto + s.cfg.tSleep = 210000)

/-- R47: the packet is a view of `RXBUF`, there in `DISPATCH` and `SET_EXEC` only; its payload is everything from offset 3
on. -/
def Obligations.PacketIsAViewOfTheBuffer : Prop :=
  ∀ s : State, 3 ≤ s.rxlen →
    s.packet =
      if s.st = .dispatch ∨ s.st = .setExec then
        some
          { deviceAddress := memRead s.rxbuf 0
            length := memRead s.rxbuf 1
            commandType := memRead s.rxbuf 2
            payload := s.buffer.drop 3 }
      else none

/-! ## Startup -/

/-- R220, R202: the stored pair unchecked when the load finds one, else both defaults. -/
def Obligations.BootLoadsThePairOrBothDefaults : Prop :=
  ∀ s : State, s.st = .bootLoad → s.Calm → s.hung = none →
    ∃ t, step s = .next t ∧ t.st = .bootApply ∧
      (∀ f p, (s.callAt 0).readable = true → s.store = some (f, p) → t.freq = f ∧ t.power = p) ∧
      ((s.callAt 0).readable = false ∨ s.store = none → t.freq = s.cfg.defFreq ∧ t.power = s.cfg.defPower) ∧
      t.now = s.now + (s.callAt 0).cost ∧ t.trace = s.trace ++ [(s.now, .load)] ∧
      { t with
        st := s.st, freq := s.freq, power := s.power, now := s.now, trace := s.trace, calls := s.calls
        callNo := s.callNo } = s

/-- R221: the five radio operations, each exactly once, in the order of the API, at the ticks the transactions take. -/
def Obligations.BootAppliesFiveOperations : Prop :=
  ∀ s : State, s.st = .bootApply → s.Calm → s.hung = none →
    step s =
      .next
        { s with
          st := .bootReport
          now := s.now + (s.callAt 0).cost + (s.callAt 1).cost + (s.callAt 2).cost + (s.callAt 3).cost +
            (s.callAt 4).cost
          calls := s.calls.drop 5
          callNo := s.callNo + 5
          trace := s.trace ++
            [(s.now, .radio .setFrequency s.freq),
              (s.now + (s.callAt 0).cost, .radio .setTxPower (s.power.zeroExtend 32)),
              (s.now + (s.callAt 0).cost + (s.callAt 1).cost, .radio .setSpreadingFactor s.cfg.linkSf),
              (s.now + (s.callAt 0).cost + (s.callAt 1).cost + (s.callAt 2).cost, .radio .setBandwidth s.cfg.linkBw),
              (s.now + (s.callAt 0).cost + (s.callAt 1).cost + (s.callAt 2).cost + (s.callAt 3).cost,
                .radio .setCodingRate s.cfg.linkCr)] }

/-- R222: one report, of the settings in force and the three link constants, and then the loop starts. -/
def Obligations.BootReportsTheSettingsOnce : Prop :=
  ∀ s : State, s.st = .bootReport → s.Calm → s.hung = none →
    step s =
      .next
        { s with
          st := .idle
          now := s.now + (s.callAt 0).cost
          calls := s.calls.drop 1
          callNo := s.callNo + 1
          trace := s.trace ++
            [(s.now,
              .diag (.report
                { freq := s.freq, power := s.power, sf := s.cfg.linkSf, bw := s.cfg.linkBw, cr := s.cfg.linkCr }))] }

/-- R224: a boot on an empty store issues the load, the five radio operations with the defaults and the report, saves nothing,
and arrives at `IDLE` with the line released. -/
def Obligations.BootOnAnEmptyStoreReportsTheDefaults : Prop :=
  ∀ s : State, s.st = .bootLoad → s.cfg = {} → s.Calm → s.hung = none → s.store = none →
    ∃ t, s.run 3 = .next t ∧ t.st = .idle ∧ t.freq = 0x44590000 ∧ t.power = 100 ∧ t.store = none ∧ t.dir = s.dir ∧
      t.txd = s.txd ∧
      t.trace.map Prod.snd = s.trace.map Prod.snd ++
        [.load, .radio .setFrequency 0x44590000, .radio .setTxPower 100, .radio .setSpreadingFactor 7,
          .radio .setBandwidth 125000, .radio .setCodingRate 5,
          .diag (.report { freq := 0x44590000, power := 100, sf := 7, bw := 125000, cr := 5 })]

/-! ## Reset -/

/-- R45, R281: the values the spec gives for reset (those it leaves unspecified are not stated), and the two pins. -/
def Obligations.ResetLeavesTheStatedValues : Prop :=
  State.reset.st = .bootLoad ∧ State.reset.now = 0 ∧ State.reset.dir = .rx ∧ State.reset.txd = true ∧
    State.reset.prev = false ∧ State.reset.rxlen = 0 ∧ State.reset.persistErr = false ∧
    State.reset.pinOe = false ∧ State.reset.pinOut = true

/-- R280, R281, R284: an asserted reset comes before whatever the block was doing, from any state, a hang included; the stated
registers take their values and the store keeps its content. That the reset takes no time, which `t.base = s.wall` with
`t.now = 0` states, is the model's choice (log entry 6). -/
def Obligations.ResetComesFirstAndKeepsTheStore : Prop :=
  ∀ s : State, s.resetDue = true →
    ∃ t, step s = .next t ∧ t.st = .bootLoad ∧ t.now = 0 ∧ t.dir = .rx ∧ t.txd = true ∧ t.prev = false ∧ t.rxlen = 0 ∧
      t.persistErr = false ∧ t.pinOe = false ∧ t.store = s.store ∧ t.cfg = s.cfg ∧ t.resets = s.resets.tail ∧
      t.base = s.wall ∧ t.trace = s.trace ++ [(s.now, .reset)]

/-! ## Over all states -/

/-- The invariant holds at reset (R45). Its ranges of `T_WIN`, `T_REF`, `BITCNT`, `TXLEN`, `TXIDX` and `TXBIT` hold there by the
model's choice (log entry 1): R45 leaves these registers unspecified, and the model holds 0 in them. -/
def Obligations.InvariantHoldsAtReset : Prop := State.reset.Inv

/-- R46 and what it needs: every step keeps the invariant, from every state that has it. -/
def Obligations.StepKeepsTheInvariant : Prop := ∀ s t : State, s.Inv → step s = .next t → t.Inv

/-- R235: from every state with the invariant there is a next state, and the block gets stuck only in a transaction that the
environment never completes. -/
def Obligations.OnlyAnUnansweredTransactionStops : Prop :=
  ∀ s : State, s.Inv →
    (∃ t, step s = .next t) ∧
      ∀ t, step s = .next t → s.hung = none → t.hung ≠ none → ∃ c ∈ s.calls, c.ticks = none

/-- R237: a step either waits, which takes time, or follows an edge of the transition graph. -/
def Obligations.StepsFollowTheTransitionGraph : Prop :=
  ∀ s t : State, s.cfg.wf = true → s.resets = [] → step s = .next t →
    (t.st = s.st ∧ s.now < t.now) ∨ Seq.edge s.st t.st = true

/-- R23, R230, R233: the loop goes from Idle to Dispatching only with a buffer that is not empty, to the Validator, and back to
Idle only into the sleep; it never leaves once it has started. -/
def Obligations.LoopDispatchesOnlyNonEmptyBuffers : Prop :=
  ∀ s t : State, s.resets = [] → step s = .next t →
    (s.st.loop = some .idle → t.st.loop = some .dispatching → s.st = .rxDone ∧ t.st = .validate ∧ 0 < s.rxlen) ∧
    (s.st.loop = some .dispatching → t.st.loop = some .idle → t.st = .sleep ∧ t.tRef = t.now) ∧
    (s.st.loop ≠ none → t.st.loop ≠ none)

/-- R39: `PERSIST_ERR` is set by a failed save of `SET_EXEC`, one that the block gets to and that completes, and by nothing else, is never cleared but by reset, and changes
nothing in the block's later behaviour. -/
def Obligations.PersistErrIsStickyAndUnread : Prop :=
  (∀ s t : State, s.resets = [] → step s = .next t →
    t.persistErr =
      (s.persistErr ||
        (decide (s.st = .setExec) && s.hung.isNone && (s.callAt 0).ticks.isSome && (s.callAt 1).ticks.isSome &&
          (s.callAt 2).ticks.isSome && !(s.callAt 2).ok))) ∧
  (∀ (s : State) (b : Bool),
    Out.mapNext (fun u => { u with persistErr := false }) (step { s with persistErr := b }) =
      Out.mapNext (fun u => { u with persistErr := false }) (step s))

/-- R37, R38, R185: only `BOOT_LOAD` and `SET_EXEC` write the Radio Settings, and only `SET_EXEC` writes the store. R70, R75: the
store changes to the pair of the registers whole or not at all. -/
def Obligations.OnlyLoadAndSetWriteTheSettings : Prop :=
  ∀ s t : State, s.resets = [] → step s = .next t →
    (s.st ≠ .bootLoad → s.st ≠ .setExec → t.freq = s.freq ∧ t.power = s.power) ∧
    (s.st ≠ .setExec → t.store = s.store) ∧
    (t.store = s.store ∨ t.store = some (t.freq, t.power))

/-- R25, R206: only the heads of `RECEIVE` and `TRANSMIT` write `DIR`, and the line is sampled only while it is not driven. -/
def Obligations.DirectionChangesOnlyAtTheHeads : Prop :=
  (∀ s t : State, s.resets = [] → step s = .next t →
    t.dir = if s.st = .idle then Dir.rx else if s.st = .dispatch ∧ t.st = .txSettle then Dir.tx else s.dir) ∧
  (∀ s : State, s.Inv → s.samples = true → s.pinOe = false)

/-- R26, D8: the output latch changes only where a bit begins, in that very tick. -/
def Obligations.LatchChangesOnlyWhereABitBegins : Prop :=
  ∀ s t : State, s.resets = [] → s.cfg.txFraming.gap = none → step s = .next t → t.txd ≠ s.txd →
    s.st.transmitting = true ∧ t.st = .txBit ∧ t.tRef = s.now ∧ t.now = s.now

/-- R24, R40, R73: no step changes the parameters, what has happened stays recorded in order, and time does not go back
except at a reset. -/
def Obligations.ParametersStayAndHistoryGrows : Prop :=
  ∀ s t : State, step s = .next t →
    t.cfg = s.cfg ∧ (∃ es, t.trace = s.trace ++ es) ∧ (s.resets = [] → s.now ≤ t.now ∧ t.base = s.base)

/-- R238: at a tick at which the block does not sample, nothing depends on the line. -/
def Obligations.DeafTicksDoNotReadTheLine : Prop :=
  ∀ (s : State) (w : List Run), s.samples = false →
    Out.mapNext (fun u => { u with line := [] }) (step { s with line := w }) =
      Out.mapNext (fun u => { u with line := [] }) (step s)

/-- R61, R106, R107: no rule reads byte 1 of `RXBUF` or any byte from 7 on. Two states that differ only there take the same
step, what `RXBUF` holds apart. -/
def Obligations.UnreadBytesDoNotMatter : Prop :=
  ∀ (s : State) (m : List Host.Cell),
    (∀ a, a = 0 ∨ (2 ≤ a ∧ a ≤ 6) → memRead m a = memRead s.rxbuf a) →
    Out.mapNext (fun u => { u with rxbuf := [] }) (step { s with rxbuf := m }) =
      Out.mapNext (fun u => { u with rxbuf := [] }) (step s)

/-- R262, R260: signalling a condition writes no register and transfers no control; it only names the point on the trace. -/
def Obligations.SignalWritesOnlyTheTrace : Prop :=
  ∀ (s : State) (c : Condition),
    s.signal true c = { s with trace := s.trace ++ [(s.now, .signal c)] } ∧ s.signal false c = s

/-! ## The pins, tick by tick -/

/-- R30: the pins during a tick are those after its instant states. In the tick in which `IDLE` is evaluated the line is no
longer driven, in the tick in which a `BIND` is dispatched it is, in every tick in which the line is sampled it is not, and
during a transaction the pins are held (44 R207). -/
def Obligations.PinsDuringATickFollowItsInstantStates : Prop :=
  ∀ s : State, s.resetDue = false →
    (s.st = .idle → 0 < s.cfg.tSettle → s.pinsDuring 2 s.wall = some { oe := false, out := s.txd }) ∧
    (∀ l tl, s.st = .dispatch → decodePacket s.cfg s.buffer = .ok (.bind l tl) → 0 < s.cfg.tSettle →
      s.pinsDuring 2 s.wall = some { oe := true, out := s.txd }) ∧
    (s.Inv → s.samples = true → s.pinsDuring 1 s.wall = some { oe := false, out := s.txd }) ∧
    (∀ n d, s.st = .bootLoad → s.resets = [] → s.hung = none → (s.callAt 0).ticks = some n → d < n →
      s.pinsDuring 1 (s.wall + d) = some s.pins)

/-- R157, R154, R30: what the pins show in every tick from the entry of `TRANSMIT` until the next receive: the latch through
the settle, bit `n` of byte `j` in its `T_BIT` ticks, the last bit of the byte through the gap, the last bit of the packet
through the sleep, and in the tick in which the sleep ends nothing is driven any more. -/
def Obligations.AcknowledgementOnThePins : Prop :=
  ∀ s : State, s.st = .txSettle → s.tRef = s.now → s.resets = [] → s.dir = .tx → s.txlen = 4 →
    s.cfg.txFraming = {} → s.cfg.lineActiveHigh = true →
    (∀ d, d < s.cfg.tSettle → ∃ k, s.pinsDuring k (s.wall + d) = some { oe := true, out := s.txd }) ∧
    (∀ (j n d : Nat) (hj : j < 4), n < 8 → d < s.cfg.tBit →
      ∃ k, s.pinsDuring k (s.wall + (s.cfg.tSettle + (8 * s.cfg.tBit + s.cfg.tGap) * j + s.cfg.tBit * n + d)) =
        some { oe := true, out := s.txbuf[j].getLsbD (bitIndex s.cfg.bitOrder n) }) ∧
    (∀ (j d : Nat) (hj : j < 4), d < s.cfg.tGap →
      ∃ k, s.pinsDuring k (s.wall + (s.cfg.tSettle + (8 * s.cfg.tBit + s.cfg.tGap) * j + s.cfg.tBit * 8 + d)) =
        some { oe := true, out := s.txbuf[j].getLsbD (bitIndex s.cfg.bitOrder 7) }) ∧
    (∀ d, d < s.cfg.tSleep →
      ∃ k, s.pinsDuring k (s.wall + (s.cfg.tSettle + (8 * s.cfg.tBit + s.cfg.tGap) * 4 + d)) =
        some { oe := true, out := s.txbuf[3].getLsbD (bitIndex s.cfg.bitOrder 7) }) ∧
    (0 < s.cfg.tSettle →
      ∃ k, s.pinsDuring k (s.wall + (s.cfg.tSettle + (8 * s.cfg.tBit + s.cfg.tGap) * 4 + s.cfg.tSleep)) =
        some { oe := false, out := s.txbuf[3].getLsbD (bitIndex s.cfg.bitOrder 7) })

/-- R46 (d), with the framing of D8: in a state with the invariant `BITCNT`, `TXBIT`, `RXLEN` and `TXIDX` are in their
ranges. -/
def Obligations.InvariantBoundsTheCounters : Prop :=
  ∀ s : State, s.Inv → s.cfg.txFraming = {} →
    s.bitcnt ≤ 8 ∧ s.txbit ≤ 8 ∧ s.rxlen ≤ s.cfg.rxbufMax ∧ (s.st = .txBit ∨ s.st = .txGap → s.txidx < s.txlen)

/-! ## Transactions, tick by tick -/

/-- R207, R208, on the transactions of a `SET` in `SET_EXEC`. (1) In every tick from its own to the one in which it is done, each
request stands from the tick that issues its transaction until that is over, each `done` comes in the tick in which it is
over, `diag_req` is a strobe, `persist_err` rises when the save has failed and not when the rule ends, and the pins are held;
where within these ticks the handshakes stand is the model's choice (log entry 28). (2) A save that never completes leaves the
block stuck after issuing it: the registers, the two radio operations before it and `ST` are kept. What the store then holds,
the old pair or the new one as the environment decides, is the model's choice (log entry 5; 93 U6 and R70 speak only of a save
that fails or succeeds), and so is the one tick that the step which issues the save takes, in `now + 1` (log entry 4). (3) A stuck block lets the
ticks pass, changes nothing, and holds its transaction and its pins (R297); that each of these ticks is a step is the model's
choice (log entry 4). -/
def Obligations.TransactionsTickByTick : Prop :=
  (∀ (s : State) (l : Byte) (p f : Half) (tl : List Byte) (n0 n1 n2 n3 : Nat), s.st = .setExec → s.resets = [] →
    s.hung = none → 0 < s.cfg.tSleep → decodePacket s.cfg s.buffer = .ok (.set l p f tl) →
    (s.callAt 0).ticks = some n0 → (s.callAt 1).ticks = some n1 → (s.callAt 2).ticks = some n2 →
    (s.callAt 3).ticks = some n3 →
    ∀ d, d ≤ n0 + n1 + n2 + (if (s.callAt 2).ok then 0 else n3) →
      ∃ q, s.portsDuring 2 (s.wall + d) = some q ∧ q.pins = s.pins ∧
        (q.radioReq = true ↔ d < n0 + n1 ∨ d = n0) ∧
        (q.radioDone = true ↔ d = n0 ∨ d = n0 + n1) ∧
        (q.storeReq = true ↔ d = n0 + n1 ∨ (n0 + n1 ≤ d ∧ d < n0 + n1 + n2)) ∧
        (q.storeDone = true ↔ d = n0 + n1 + n2) ∧
        (q.diagReq = true ↔ (s.callAt 2).ok = false ∧ d = n0 + n1 + n2) ∧
        (q.persistErr = true ↔ s.persistErr = true ∨ ((s.callAt 2).ok = false ∧ n0 + n1 + n2 ≤ d))) ∧
  (∀ (s : State) (l : Byte) (p f : Half) (tl : List Byte) (n0 n1 : Nat), s.resets = [] → s.cfg.freqScale = 10 →
    (s.callAt 0).ticks = some n0 → (s.callAt 1).ticks = some n1 → (s.callAt 2).ticks = none →
    exec (.set l p f tl) s =
      .next
        { s with
          power := p
          freq := f32OfTenths f
          store := if (s.callAt 2).landed then some (f32OfTenths f, p) else s.store
          now := s.now + n0 + n1 + 1
          hung := some (.save (f32OfTenths f) p)
          calls := s.calls.drop 3
          callNo := s.callNo + 3
          trace := s.trace ++
            [(s.now, .radio .setFrequency (f32OfTenths f)), (s.now + n0, .radio .setTxPower (p.zeroExtend 32)),
              (s.now + n0 + n1, .save (f32OfTenths f) p)] }) ∧
  (∀ (s : State) (ev : Event), s.st.transacts = true → s.hung = some ev → s.resets = [] →
    ∀ n, s.run n = .next { s with now := s.now + n } ∧
      s.portsDuring (n + 1) (s.wall + n) =
        some { pins := s.pins, persistErr := s.persistErr, held := some ev, handshakes := [] })
end

