-- ==== Sys2Proof/Laws/Memory.lean ====
section
/-! SUPPORT. The laws of `RXBUF` (spec 10 R31, 20 R61): a read after a write, the canonical form, and the buffer a rule reads. -/

namespace Sys2Proof.Machine

theorem memRead_of_all_lt (m : List Host.Cell) (i : Nat) (h : ∀ c ∈ m, i < c.1) : memRead m i = blankByte := by
  induction m with
  | nil => rfl
  | cons c m ih =>
    have := h c (by simp)
    obtain ⟨a, b⟩ := c
    simp only [memRead]
    rw [if_neg (by simp at this; omega)]
    exact ih fun c hc => h c (by simp [hc])

theorem memRead_memCons (m : List Host.Cell) (i j : Nat) (v : Byte) (h : ∀ c ∈ m, i < c.1) :
    memRead (memCons i v m) j = if j = i then v else memRead m j := by
  unfold memCons
  by_cases hji : j = i
  · subst hji
    split
    · simp [*, memRead_of_all_lt m j h]
    · simp [memRead]
  · have hij : ¬ i = j := fun e => hji e.symm
    split <;> simp [memRead, hij]

/-- The canonical form of a non-empty memory, taken apart. -/
theorem memWf_cons (a : Nat) (b : Byte) (m : List Host.Cell) :
    Memory.wf ((a, b) :: m) = true ↔ (∀ c ∈ m, a < c.1) ∧ b ≠ blankByte ∧ Memory.wf m = true := by
  simp [Memory.wf, and_assoc]

/-- A read after a write to the same byte gives the value written; any other byte reads as before. -/
theorem memRead_memWrite (m : List Host.Cell) (h : Memory.wf m = true) (i j : Nat) (v : Byte) :
    memRead (memWrite m i v) j = if j = i then v else memRead m j := by
  induction m with
  | nil => exact memRead_memCons [] i j v (by simp)
  | cons c m ih =>
    obtain ⟨a, b⟩ := c
    obtain ⟨hlt, _, hm⟩ := (memWf_cons a b m).1 h
    simp only [memWrite]
    split
    · refine memRead_memCons _ i j v fun c hc => ?_
      rcases List.mem_cons.1 hc with rfl | hc
      · assumption
      · exact lt_trans (by assumption) (hlt c hc)
    · split
      · rename_i hia
        subst hia
        rw [memRead_memCons _ _ j v hlt]
        by_cases hj : j = i
        · simp [hj]
        · simp only [if_neg hj, memRead]
          rw [if_neg (fun e => hj e.symm)]
      · simp only [memRead, ih hm]
        by_cases ha : a = j
        · subst ha; simp; omega
        · simp [ha]

theorem memCons_lt (m : List Host.Cell) (a i : Nat) (v : Byte) (hi : a < i) (h : ∀ c ∈ m, a < c.1) :
    ∀ c ∈ memCons i v m, a < c.1 := by
  unfold memCons
  split
  · exact h
  · intro c hc
    rcases List.mem_cons.1 hc with rfl | hc
    · exact hi
    · exact h c hc

theorem memWrite_lt (m : List Host.Cell) (a i : Nat) (v : Byte) (hi : a < i) (h : ∀ c ∈ m, a < c.1) :
    ∀ c ∈ memWrite m i v, a < c.1 := by
  induction m with
  | nil => exact memCons_lt [] a i v hi (by simp)
  | cons d m ih =>
    obtain ⟨d, b⟩ := d
    have hd : a < d := h (d, b) (by simp)
    have hm : ∀ c ∈ m, a < c.1 := fun c hc => h c (by simp [hc])
    simp only [memWrite]
    split
    · exact memCons_lt _ a i v hi h
    · split
      · exact memCons_lt _ a i v hi hm
      · intro c hc
        rcases List.mem_cons.1 hc with rfl | hc
        · exact hd
        · exact ih hm c hc

theorem memCons_wf (m : List Host.Cell) (i : Nat) (v : Byte) (h : Memory.wf m = true) (hlt : ∀ c ∈ m, i < c.1) :
    Memory.wf (memCons i v m) = true := by
  unfold memCons
  split
  · exact h
  · exact (memWf_cons i v m).2 ⟨hlt, by assumption, h⟩

/-- A write keeps the canonical form. -/
theorem memWrite_wf (m : List Host.Cell) (i : Nat) (v : Byte) (h : Memory.wf m = true) :
    Memory.wf (memWrite m i v) = true := by
  induction m with
  | nil => exact memCons_wf [] i v rfl (by simp)
  | cons c m ih =>
    obtain ⟨a, b⟩ := c
    obtain ⟨hlt, hb, hm⟩ := (memWf_cons a b m).1 h
    simp only [memWrite]
    split
    · refine memCons_wf _ i v h fun c hc => ?_
      rcases List.mem_cons.1 hc with rfl | hc
      · assumption
      · exact lt_trans (by assumption) (hlt c hc)
    · split
      · rename_i hia
        exact memCons_wf _ _ v hm (hia ▸ hlt)
      · exact (memWf_cons a b _).2 ⟨memWrite_lt m a i v (by omega) hlt, hb, ih hm⟩

/-- A write lists no address beyond the one written and those already listed. -/
theorem memWrite_bound (m : List Host.Cell) (i n : Nat) (v : Byte) (hi : i < n) (h : ∀ c ∈ m, c.1 < n) :
    ∀ c ∈ memWrite m i v, c.1 < n := by
  have cons : ∀ m : List Host.Cell, (∀ c ∈ m, c.1 < n) → ∀ c ∈ memCons i v m, c.1 < n := by
    intro m hm c hc
    unfold memCons at hc
    split at hc
    · exact hm c hc
    · rcases List.mem_cons.1 hc with rfl | hc
      · exact hi
      · exact hm c hc
  induction m with
  | nil => exact cons [] (by simp)
  | cons d m ih =>
    obtain ⟨d, b⟩ := d
    have hm : ∀ c ∈ m, c.1 < n := fun c hc => h c (by simp [hc])
    simp only [memWrite]
    split
    · exact cons _ h
    · split
      · exact cons _ hm
      · intro c hc
        rcases List.mem_cons.1 hc with rfl | hc
        · exact h (d, b) (by simp)
        · exact ih hm c hc

/-- After reset nothing is listed, which is canonical. -/
theorem reset_memory_wf : Memory.wf State.reset.rxbuf = true := rfl

@[simp] theorem State.buffer_length (s : State) : s.buffer.length = s.rxlen := by simp [State.buffer]

/-- Byte `i` of the buffer is byte `i` of `RXBUF`, for the bytes a rule may read. -/
theorem State.buffer_getElem? (s : State) (i : Nat) (h : i < s.rxlen) : s.buffer[i]? = some (memRead s.rxbuf i) := by
  simp [State.buffer, h]

end Sys2Proof.Machine
end

