-- ==== Sys2Proof/Laws/State.lean ====
section
/-! SUPPORT. One lemma for each field under each update of the state, true by `rfl`: what an update leaves alone and what it
writes. No later proof unfolds an update. -/

namespace Sys2Proof.Machine

/-! ### `State.goto` -/

@[simp] theorem State.goto_st (s : State) (q : Seq) : (s.goto q).st = q := rfl
@[simp] theorem State.goto_now (s : State) (q : Seq) : (s.goto q).now = s.now := rfl
@[simp] theorem State.goto_dir (s : State) (q : Seq) : (s.goto q).dir = s.dir := rfl
@[simp] theorem State.goto_txd (s : State) (q : Seq) : (s.goto q).txd = s.txd := rfl
@[simp] theorem State.goto_prev (s : State) (q : Seq) : (s.goto q).prev = s.prev := rfl
@[simp] theorem State.goto_shift (s : State) (q : Seq) : (s.goto q).shift = s.shift := rfl
@[simp] theorem State.goto_bitcnt (s : State) (q : Seq) : (s.goto q).bitcnt = s.bitcnt := rfl
@[simp] theorem State.goto_rxbuf (s : State) (q : Seq) : (s.goto q).rxbuf = s.rxbuf := rfl
@[simp] theorem State.goto_rxlen (s : State) (q : Seq) : (s.goto q).rxlen = s.rxlen := rfl
@[simp] theorem State.goto_tWin (s : State) (q : Seq) : (s.goto q).tWin = s.tWin := rfl
@[simp] theorem State.goto_tRef (s : State) (q : Seq) : (s.goto q).tRef = s.tRef := rfl
@[simp] theorem State.goto_txbuf (s : State) (q : Seq) : (s.goto q).txbuf = s.txbuf := rfl
@[simp] theorem State.goto_txlen (s : State) (q : Seq) : (s.goto q).txlen = s.txlen := rfl
@[simp] theorem State.goto_txidx (s : State) (q : Seq) : (s.goto q).txidx = s.txidx := rfl
@[simp] theorem State.goto_txbit (s : State) (q : Seq) : (s.goto q).txbit = s.txbit := rfl
@[simp] theorem State.goto_freq (s : State) (q : Seq) : (s.goto q).freq = s.freq := rfl
@[simp] theorem State.goto_power (s : State) (q : Seq) : (s.goto q).power = s.power := rfl
@[simp] theorem State.goto_persistErr (s : State) (q : Seq) : (s.goto q).persistErr = s.persistErr := rfl
@[simp] theorem State.goto_cfg (s : State) (q : Seq) : (s.goto q).cfg = s.cfg := rfl
@[simp] theorem State.goto_store (s : State) (q : Seq) : (s.goto q).store = s.store := rfl
@[simp] theorem State.goto_base (s : State) (q : Seq) : (s.goto q).base = s.base := rfl
@[simp] theorem State.goto_line (s : State) (q : Seq) : (s.goto q).line = s.line := rfl
@[simp] theorem State.goto_calls (s : State) (q : Seq) : (s.goto q).calls = s.calls := rfl
@[simp] theorem State.goto_callNo (s : State) (q : Seq) : (s.goto q).callNo = s.callNo := rfl
@[simp] theorem State.goto_hung (s : State) (q : Seq) : (s.goto q).hung = s.hung := rfl
@[simp] theorem State.goto_resets (s : State) (q : Seq) : (s.goto q).resets = s.resets := rfl
@[simp] theorem State.goto_trace (s : State) (q : Seq) : (s.goto q).trace = s.trace := rfl

/-! ### `State.tick` -/

@[simp] theorem State.tick_st (s : State) : s.tick.st = s.st := rfl
@[simp] theorem State.tick_now (s : State) : s.tick.now = s.now + 1 := rfl
@[simp] theorem State.tick_dir (s : State) : s.tick.dir = s.dir := rfl
@[simp] theorem State.tick_txd (s : State) : s.tick.txd = s.txd := rfl
@[simp] theorem State.tick_prev (s : State) : s.tick.prev = s.prev := rfl
@[simp] theorem State.tick_shift (s : State) : s.tick.shift = s.shift := rfl
@[simp] theorem State.tick_bitcnt (s : State) : s.tick.bitcnt = s.bitcnt := rfl
@[simp] theorem State.tick_rxbuf (s : State) : s.tick.rxbuf = s.rxbuf := rfl
@[simp] theorem State.tick_rxlen (s : State) : s.tick.rxlen = s.rxlen := rfl
@[simp] theorem State.tick_tWin (s : State) : s.tick.tWin = s.tWin := rfl
@[simp] theorem State.tick_tRef (s : State) : s.tick.tRef = s.tRef := rfl
@[simp] theorem State.tick_txbuf (s : State) : s.tick.txbuf = s.txbuf := rfl
@[simp] theorem State.tick_txlen (s : State) : s.tick.txlen = s.txlen := rfl
@[simp] theorem State.tick_txidx (s : State) : s.tick.txidx = s.txidx := rfl
@[simp] theorem State.tick_txbit (s : State) : s.tick.txbit = s.txbit := rfl
@[simp] theorem State.tick_freq (s : State) : s.tick.freq = s.freq := rfl
@[simp] theorem State.tick_power (s : State) : s.tick.power = s.power := rfl
@[simp] theorem State.tick_persistErr (s : State) : s.tick.persistErr = s.persistErr := rfl
@[simp] theorem State.tick_cfg (s : State) : s.tick.cfg = s.cfg := rfl
@[simp] theorem State.tick_store (s : State) : s.tick.store = s.store := rfl
@[simp] theorem State.tick_base (s : State) : s.tick.base = s.base := rfl
@[simp] theorem State.tick_line (s : State) : s.tick.line = s.line := rfl
@[simp] theorem State.tick_calls (s : State) : s.tick.calls = s.calls := rfl
@[simp] theorem State.tick_callNo (s : State) : s.tick.callNo = s.callNo := rfl
@[simp] theorem State.tick_hung (s : State) : s.tick.hung = s.hung := rfl
@[simp] theorem State.tick_resets (s : State) : s.tick.resets = s.resets := rfl
@[simp] theorem State.tick_trace (s : State) : s.tick.trace = s.trace := rfl

/-! ### `State.sampleTick` -/

@[simp] theorem State.sampleTick_st (s : State) : s.sampleTick.st = s.st := rfl
@[simp] theorem State.sampleTick_now (s : State) : s.sampleTick.now = s.now + s.cfg.poll := rfl
@[simp] theorem State.sampleTick_dir (s : State) : s.sampleTick.dir = s.dir := rfl
@[simp] theorem State.sampleTick_txd (s : State) : s.sampleTick.txd = s.txd := rfl
@[simp] theorem State.sampleTick_prev (s : State) : s.sampleTick.prev = s.prev := rfl
@[simp] theorem State.sampleTick_shift (s : State) : s.sampleTick.shift = s.shift := rfl
@[simp] theorem State.sampleTick_bitcnt (s : State) : s.sampleTick.bitcnt = s.bitcnt := rfl
@[simp] theorem State.sampleTick_rxbuf (s : State) : s.sampleTick.rxbuf = s.rxbuf := rfl
@[simp] theorem State.sampleTick_rxlen (s : State) : s.sampleTick.rxlen = s.rxlen := rfl
@[simp] theorem State.sampleTick_tWin (s : State) : s.sampleTick.tWin = s.tWin := rfl
@[simp] theorem State.sampleTick_tRef (s : State) : s.sampleTick.tRef = s.tRef := rfl
@[simp] theorem State.sampleTick_txbuf (s : State) : s.sampleTick.txbuf = s.txbuf := rfl
@[simp] theorem State.sampleTick_txlen (s : State) : s.sampleTick.txlen = s.txlen := rfl
@[simp] theorem State.sampleTick_txidx (s : State) : s.sampleTick.txidx = s.txidx := rfl
@[simp] theorem State.sampleTick_txbit (s : State) : s.sampleTick.txbit = s.txbit := rfl
@[simp] theorem State.sampleTick_freq (s : State) : s.sampleTick.freq = s.freq := rfl
@[simp] theorem State.sampleTick_power (s : State) : s.sampleTick.power = s.power := rfl
@[simp] theorem State.sampleTick_persistErr (s : State) : s.sampleTick.persistErr = s.persistErr := rfl
@[simp] theorem State.sampleTick_cfg (s : State) : s.sampleTick.cfg = s.cfg := rfl
@[simp] theorem State.sampleTick_store (s : State) : s.sampleTick.store = s.store := rfl
@[simp] theorem State.sampleTick_base (s : State) : s.sampleTick.base = s.base := rfl
@[simp] theorem State.sampleTick_line (s : State) : s.sampleTick.line = s.line := rfl
@[simp] theorem State.sampleTick_calls (s : State) : s.sampleTick.calls = s.calls := rfl
@[simp] theorem State.sampleTick_callNo (s : State) : s.sampleTick.callNo = s.callNo := rfl
@[simp] theorem State.sampleTick_hung (s : State) : s.sampleTick.hung = s.hung := rfl
@[simp] theorem State.sampleTick_resets (s : State) : s.sampleTick.resets = s.resets := rfl
@[simp] theorem State.sampleTick_trace (s : State) : s.sampleTick.trace = s.trace := rfl

/-! ### `State.append` -/

@[simp] theorem State.append_st (s : State) (v : Byte) : (s.append v).st = s.st := rfl
@[simp] theorem State.append_now (s : State) (v : Byte) : (s.append v).now = s.now := rfl
@[simp] theorem State.append_dir (s : State) (v : Byte) : (s.append v).dir = s.dir := rfl
@[simp] theorem State.append_txd (s : State) (v : Byte) : (s.append v).txd = s.txd := rfl
@[simp] theorem State.append_prev (s : State) (v : Byte) : (s.append v).prev = s.prev := rfl
@[simp] theorem State.append_shift (s : State) (v : Byte) : (s.append v).shift = s.shift := rfl
@[simp] theorem State.append_bitcnt (s : State) (v : Byte) : (s.append v).bitcnt = s.bitcnt := rfl
@[simp] theorem State.append_rxbuf (s : State) (v : Byte) : (s.append v).rxbuf = memWrite s.rxbuf s.rxlen v := rfl
@[simp] theorem State.append_rxlen (s : State) (v : Byte) : (s.append v).rxlen = s.rxlen + 1 := rfl
@[simp] theorem State.append_tWin (s : State) (v : Byte) : (s.append v).tWin = s.tWin := rfl
@[simp] theorem State.append_tRef (s : State) (v : Byte) : (s.append v).tRef = s.tRef := rfl
@[simp] theorem State.append_txbuf (s : State) (v : Byte) : (s.append v).txbuf = s.txbuf := rfl
@[simp] theorem State.append_txlen (s : State) (v : Byte) : (s.append v).txlen = s.txlen := rfl
@[simp] theorem State.append_txidx (s : State) (v : Byte) : (s.append v).txidx = s.txidx := rfl
@[simp] theorem State.append_txbit (s : State) (v : Byte) : (s.append v).txbit = s.txbit := rfl
@[simp] theorem State.append_freq (s : State) (v : Byte) : (s.append v).freq = s.freq := rfl
@[simp] theorem State.append_power (s : State) (v : Byte) : (s.append v).power = s.power := rfl
@[simp] theorem State.append_persistErr (s : State) (v : Byte) : (s.append v).persistErr = s.persistErr := rfl
@[simp] theorem State.append_cfg (s : State) (v : Byte) : (s.append v).cfg = s.cfg := rfl
@[simp] theorem State.append_store (s : State) (v : Byte) : (s.append v).store = s.store := rfl
@[simp] theorem State.append_base (s : State) (v : Byte) : (s.append v).base = s.base := rfl
@[simp] theorem State.append_line (s : State) (v : Byte) : (s.append v).line = s.line := rfl
@[simp] theorem State.append_calls (s : State) (v : Byte) : (s.append v).calls = s.calls := rfl
@[simp] theorem State.append_callNo (s : State) (v : Byte) : (s.append v).callNo = s.callNo := rfl
@[simp] theorem State.append_hung (s : State) (v : Byte) : (s.append v).hung = s.hung := rfl
@[simp] theorem State.append_resets (s : State) (v : Byte) : (s.append v).resets = s.resets := rfl
@[simp] theorem State.append_trace (s : State) (v : Byte) : (s.append v).trace = s.trace := rfl

/-! ### `State.takeReset` -/

@[simp] theorem State.takeReset_st (s : State) : s.takeReset.st = .bootLoad := rfl
@[simp] theorem State.takeReset_now (s : State) : s.takeReset.now = 0 := rfl
@[simp] theorem State.takeReset_dir (s : State) : s.takeReset.dir = .rx := rfl
@[simp] theorem State.takeReset_txd (s : State) : s.takeReset.txd = true := rfl
@[simp] theorem State.takeReset_prev (s : State) : s.takeReset.prev = false := rfl
@[simp] theorem State.takeReset_shift (s : State) : s.takeReset.shift = 0 := rfl
@[simp] theorem State.takeReset_bitcnt (s : State) : s.takeReset.bitcnt = 0 := rfl
@[simp] theorem State.takeReset_rxbuf (s : State) : s.takeReset.rxbuf = [] := rfl
@[simp] theorem State.takeReset_rxlen (s : State) : s.takeReset.rxlen = 0 := rfl
@[simp] theorem State.takeReset_tWin (s : State) : s.takeReset.tWin = 0 := rfl
@[simp] theorem State.takeReset_tRef (s : State) : s.takeReset.tRef = 0 := rfl
@[simp] theorem State.takeReset_txbuf (s : State) : s.takeReset.txbuf = #v[0, 0, 0, 0] := rfl
@[simp] theorem State.takeReset_txlen (s : State) : s.takeReset.txlen = 0 := rfl
@[simp] theorem State.takeReset_txidx (s : State) : s.takeReset.txidx = 0 := rfl
@[simp] theorem State.takeReset_txbit (s : State) : s.takeReset.txbit = 0 := rfl
@[simp] theorem State.takeReset_freq (s : State) : s.takeReset.freq = 0 := rfl
@[simp] theorem State.takeReset_power (s : State) : s.takeReset.power = 0 := rfl
@[simp] theorem State.takeReset_persistErr (s : State) : s.takeReset.persistErr = false := rfl
@[simp] theorem State.takeReset_cfg (s : State) : s.takeReset.cfg = s.cfg := rfl
@[simp] theorem State.takeReset_store (s : State) : s.takeReset.store = s.store := rfl
@[simp] theorem State.takeReset_base (s : State) : s.takeReset.base = s.resetAt := rfl
@[simp] theorem State.takeReset_line (s : State) : s.takeReset.line = s.line := rfl
@[simp] theorem State.takeReset_calls (s : State) : s.takeReset.calls = s.calls := rfl
@[simp] theorem State.takeReset_callNo (s : State) : s.takeReset.callNo = s.callNo := rfl
@[simp] theorem State.takeReset_hung (s : State) : s.takeReset.hung = none := rfl
@[simp] theorem State.takeReset_resets (s : State) : s.takeReset.resets = s.resets.tail := rfl
@[simp] theorem State.takeReset_trace (s : State) : s.takeReset.trace = s.trace ++ [(s.resetAt - s.base, .reset)] := rfl

/-! ### `State.issue` -/

@[simp] theorem State.issue_st (s : State) (ev : Event) : (s.issue ev).st = s.st := rfl
@[simp] theorem State.issue_now (s : State) (ev : Event) : (s.issue ev).now = s.now := rfl
@[simp] theorem State.issue_dir (s : State) (ev : Event) : (s.issue ev).dir = s.dir := rfl
@[simp] theorem State.issue_txd (s : State) (ev : Event) : (s.issue ev).txd = s.txd := rfl
@[simp] theorem State.issue_prev (s : State) (ev : Event) : (s.issue ev).prev = s.prev := rfl
@[simp] theorem State.issue_shift (s : State) (ev : Event) : (s.issue ev).shift = s.shift := rfl
@[simp] theorem State.issue_bitcnt (s : State) (ev : Event) : (s.issue ev).bitcnt = s.bitcnt := rfl
@[simp] theorem State.issue_rxbuf (s : State) (ev : Event) : (s.issue ev).rxbuf = s.rxbuf := rfl
@[simp] theorem State.issue_rxlen (s : State) (ev : Event) : (s.issue ev).rxlen = s.rxlen := rfl
@[simp] theorem State.issue_tWin (s : State) (ev : Event) : (s.issue ev).tWin = s.tWin := rfl
@[simp] theorem State.issue_tRef (s : State) (ev : Event) : (s.issue ev).tRef = s.tRef := rfl
@[simp] theorem State.issue_txbuf (s : State) (ev : Event) : (s.issue ev).txbuf = s.txbuf := rfl
@[simp] theorem State.issue_txlen (s : State) (ev : Event) : (s.issue ev).txlen = s.txlen := rfl
@[simp] theorem State.issue_txidx (s : State) (ev : Event) : (s.issue ev).txidx = s.txidx := rfl
@[simp] theorem State.issue_txbit (s : State) (ev : Event) : (s.issue ev).txbit = s.txbit := rfl
@[simp] theorem State.issue_freq (s : State) (ev : Event) : (s.issue ev).freq = s.freq := rfl
@[simp] theorem State.issue_power (s : State) (ev : Event) : (s.issue ev).power = s.power := rfl
@[simp] theorem State.issue_persistErr (s : State) (ev : Event) : (s.issue ev).persistErr = s.persistErr := rfl
@[simp] theorem State.issue_cfg (s : State) (ev : Event) : (s.issue ev).cfg = s.cfg := rfl
@[simp] theorem State.issue_store (s : State) (ev : Event) : (s.issue ev).store = storeIssued ev (s.callAt 0) s.store := rfl
@[simp] theorem State.issue_base (s : State) (ev : Event) : (s.issue ev).base = s.base := rfl
@[simp] theorem State.issue_line (s : State) (ev : Event) : (s.issue ev).line = s.line := rfl
@[simp] theorem State.issue_calls (s : State) (ev : Event) : (s.issue ev).calls = s.calls.drop 1 := rfl
@[simp] theorem State.issue_callNo (s : State) (ev : Event) : (s.issue ev).callNo = s.callNo + 1 := rfl
@[simp] theorem State.issue_hung (s : State) (ev : Event) : (s.issue ev).hung = s.hung := rfl
@[simp] theorem State.issue_resets (s : State) (ev : Event) : (s.issue ev).resets = s.resets := rfl
@[simp] theorem State.issue_trace (s : State) (ev : Event) : (s.issue ev).trace = s.trace ++ [(s.now, ev)] := rfl

/-! ### `State.elapse` -/

@[simp] theorem State.elapse_st (s : State) (n : Nat) : (s.elapse n).st = s.st := rfl
@[simp] theorem State.elapse_now (s : State) (n : Nat) : (s.elapse n).now = s.now + n := rfl
@[simp] theorem State.elapse_dir (s : State) (n : Nat) : (s.elapse n).dir = s.dir := rfl
@[simp] theorem State.elapse_txd (s : State) (n : Nat) : (s.elapse n).txd = s.txd := rfl
@[simp] theorem State.elapse_prev (s : State) (n : Nat) : (s.elapse n).prev = s.prev := rfl
@[simp] theorem State.elapse_shift (s : State) (n : Nat) : (s.elapse n).shift = s.shift := rfl
@[simp] theorem State.elapse_bitcnt (s : State) (n : Nat) : (s.elapse n).bitcnt = s.bitcnt := rfl
@[simp] theorem State.elapse_rxbuf (s : State) (n : Nat) : (s.elapse n).rxbuf = s.rxbuf := rfl
@[simp] theorem State.elapse_rxlen (s : State) (n : Nat) : (s.elapse n).rxlen = s.rxlen := rfl
@[simp] theorem State.elapse_tWin (s : State) (n : Nat) : (s.elapse n).tWin = s.tWin := rfl
@[simp] theorem State.elapse_tRef (s : State) (n : Nat) : (s.elapse n).tRef = s.tRef := rfl
@[simp] theorem State.elapse_txbuf (s : State) (n : Nat) : (s.elapse n).txbuf = s.txbuf := rfl
@[simp] theorem State.elapse_txlen (s : State) (n : Nat) : (s.elapse n).txlen = s.txlen := rfl
@[simp] theorem State.elapse_txidx (s : State) (n : Nat) : (s.elapse n).txidx = s.txidx := rfl
@[simp] theorem State.elapse_txbit (s : State) (n : Nat) : (s.elapse n).txbit = s.txbit := rfl
@[simp] theorem State.elapse_freq (s : State) (n : Nat) : (s.elapse n).freq = s.freq := rfl
@[simp] theorem State.elapse_power (s : State) (n : Nat) : (s.elapse n).power = s.power := rfl
@[simp] theorem State.elapse_persistErr (s : State) (n : Nat) : (s.elapse n).persistErr = s.persistErr := rfl
@[simp] theorem State.elapse_cfg (s : State) (n : Nat) : (s.elapse n).cfg = s.cfg := rfl
@[simp] theorem State.elapse_store (s : State) (n : Nat) : (s.elapse n).store = s.store := rfl
@[simp] theorem State.elapse_base (s : State) (n : Nat) : (s.elapse n).base = s.base := rfl
@[simp] theorem State.elapse_line (s : State) (n : Nat) : (s.elapse n).line = s.line := rfl
@[simp] theorem State.elapse_calls (s : State) (n : Nat) : (s.elapse n).calls = s.calls := rfl
@[simp] theorem State.elapse_callNo (s : State) (n : Nat) : (s.elapse n).callNo = s.callNo := rfl
@[simp] theorem State.elapse_hung (s : State) (n : Nat) : (s.elapse n).hung = s.hung := rfl
@[simp] theorem State.elapse_resets (s : State) (n : Nat) : (s.elapse n).resets = s.resets := rfl
@[simp] theorem State.elapse_trace (s : State) (n : Nat) : (s.elapse n).trace = s.trace := rfl

/-! ### `State.hang` -/

@[simp] theorem State.hang_st (s : State) (ev : Event) : (s.hang ev).st = s.st := rfl
@[simp] theorem State.hang_now (s : State) (ev : Event) : (s.hang ev).now = s.now + 1 := rfl
@[simp] theorem State.hang_dir (s : State) (ev : Event) : (s.hang ev).dir = s.dir := rfl
@[simp] theorem State.hang_txd (s : State) (ev : Event) : (s.hang ev).txd = s.txd := rfl
@[simp] theorem State.hang_prev (s : State) (ev : Event) : (s.hang ev).prev = s.prev := rfl
@[simp] theorem State.hang_shift (s : State) (ev : Event) : (s.hang ev).shift = s.shift := rfl
@[simp] theorem State.hang_bitcnt (s : State) (ev : Event) : (s.hang ev).bitcnt = s.bitcnt := rfl
@[simp] theorem State.hang_rxbuf (s : State) (ev : Event) : (s.hang ev).rxbuf = s.rxbuf := rfl
@[simp] theorem State.hang_rxlen (s : State) (ev : Event) : (s.hang ev).rxlen = s.rxlen := rfl
@[simp] theorem State.hang_tWin (s : State) (ev : Event) : (s.hang ev).tWin = s.tWin := rfl
@[simp] theorem State.hang_tRef (s : State) (ev : Event) : (s.hang ev).tRef = s.tRef := rfl
@[simp] theorem State.hang_txbuf (s : State) (ev : Event) : (s.hang ev).txbuf = s.txbuf := rfl
@[simp] theorem State.hang_txlen (s : State) (ev : Event) : (s.hang ev).txlen = s.txlen := rfl
@[simp] theorem State.hang_txidx (s : State) (ev : Event) : (s.hang ev).txidx = s.txidx := rfl
@[simp] theorem State.hang_txbit (s : State) (ev : Event) : (s.hang ev).txbit = s.txbit := rfl
@[simp] theorem State.hang_freq (s : State) (ev : Event) : (s.hang ev).freq = s.freq := rfl
@[simp] theorem State.hang_power (s : State) (ev : Event) : (s.hang ev).power = s.power := rfl
@[simp] theorem State.hang_persistErr (s : State) (ev : Event) : (s.hang ev).persistErr = s.persistErr := rfl
@[simp] theorem State.hang_cfg (s : State) (ev : Event) : (s.hang ev).cfg = s.cfg := rfl
@[simp] theorem State.hang_store (s : State) (ev : Event) : (s.hang ev).store = s.store := rfl
@[simp] theorem State.hang_base (s : State) (ev : Event) : (s.hang ev).base = s.base := rfl
@[simp] theorem State.hang_line (s : State) (ev : Event) : (s.hang ev).line = s.line := rfl
@[simp] theorem State.hang_calls (s : State) (ev : Event) : (s.hang ev).calls = s.calls := rfl
@[simp] theorem State.hang_callNo (s : State) (ev : Event) : (s.hang ev).callNo = s.callNo := rfl
@[simp] theorem State.hang_hung (s : State) (ev : Event) : (s.hang ev).hung = some ev := rfl
@[simp] theorem State.hang_resets (s : State) (ev : Event) : (s.hang ev).resets = s.resets := rfl
@[simp] theorem State.hang_trace (s : State) (ev : Event) : (s.hang ev).trace = s.trace := rfl

/-! ### `State.commit` -/

@[simp] theorem State.commit_st (s : State) (ok : Bool) : (s.commit ok).st = s.st := rfl
@[simp] theorem State.commit_now (s : State) (ok : Bool) : (s.commit ok).now = s.now := rfl
@[simp] theorem State.commit_dir (s : State) (ok : Bool) : (s.commit ok).dir = s.dir := rfl
@[simp] theorem State.commit_txd (s : State) (ok : Bool) : (s.commit ok).txd = s.txd := rfl
@[simp] theorem State.commit_prev (s : State) (ok : Bool) : (s.commit ok).prev = s.prev := rfl
@[simp] theorem State.commit_shift (s : State) (ok : Bool) : (s.commit ok).shift = s.shift := rfl
@[simp] theorem State.commit_bitcnt (s : State) (ok : Bool) : (s.commit ok).bitcnt = s.bitcnt := rfl
@[simp] theorem State.commit_rxbuf (s : State) (ok : Bool) : (s.commit ok).rxbuf = s.rxbuf := rfl
@[simp] theorem State.commit_rxlen (s : State) (ok : Bool) : (s.commit ok).rxlen = s.rxlen := rfl
@[simp] theorem State.commit_tWin (s : State) (ok : Bool) : (s.commit ok).tWin = s.tWin := rfl
@[simp] theorem State.commit_tRef (s : State) (ok : Bool) : (s.commit ok).tRef = s.tRef := rfl
@[simp] theorem State.commit_txbuf (s : State) (ok : Bool) : (s.commit ok).txbuf = s.txbuf := rfl
@[simp] theorem State.commit_txlen (s : State) (ok : Bool) : (s.commit ok).txlen = s.txlen := rfl
@[simp] theorem State.commit_txidx (s : State) (ok : Bool) : (s.commit ok).txidx = s.txidx := rfl
@[simp] theorem State.commit_txbit (s : State) (ok : Bool) : (s.commit ok).txbit = s.txbit := rfl
@[simp] theorem State.commit_freq (s : State) (ok : Bool) : (s.commit ok).freq = s.freq := rfl
@[simp] theorem State.commit_power (s : State) (ok : Bool) : (s.commit ok).power = s.power := rfl
@[simp] theorem State.commit_persistErr (s : State) (ok : Bool) : (s.commit ok).persistErr = s.persistErr := rfl
@[simp] theorem State.commit_cfg (s : State) (ok : Bool) : (s.commit ok).cfg = s.cfg := rfl
@[simp] theorem State.commit_store (s : State) (ok : Bool) : (s.commit ok).store = if ok then some (s.freq, s.power) else s.store := rfl
@[simp] theorem State.commit_base (s : State) (ok : Bool) : (s.commit ok).base = s.base := rfl
@[simp] theorem State.commit_line (s : State) (ok : Bool) : (s.commit ok).line = s.line := rfl
@[simp] theorem State.commit_calls (s : State) (ok : Bool) : (s.commit ok).calls = s.calls := rfl
@[simp] theorem State.commit_callNo (s : State) (ok : Bool) : (s.commit ok).callNo = s.callNo := rfl
@[simp] theorem State.commit_hung (s : State) (ok : Bool) : (s.commit ok).hung = s.hung := rfl
@[simp] theorem State.commit_resets (s : State) (ok : Bool) : (s.commit ok).resets = s.resets := rfl
@[simp] theorem State.commit_trace (s : State) (ok : Bool) : (s.commit ok).trace = s.trace := rfl

/-! ### `State.putSettings` -/

@[simp] theorem State.putSettings_st (s : State) (f : Word) (p : Half) : (s.putSettings f p).st = s.st := rfl
@[simp] theorem State.putSettings_now (s : State) (f : Word) (p : Half) : (s.putSettings f p).now = s.now := rfl
@[simp] theorem State.putSettings_dir (s : State) (f : Word) (p : Half) : (s.putSettings f p).dir = s.dir := rfl
@[simp] theorem State.putSettings_txd (s : State) (f : Word) (p : Half) : (s.putSettings f p).txd = s.txd := rfl
@[simp] theorem State.putSettings_prev (s : State) (f : Word) (p : Half) : (s.putSettings f p).prev = s.prev := rfl
@[simp] theorem State.putSettings_shift (s : State) (f : Word) (p : Half) : (s.putSettings f p).shift = s.shift := rfl
@[simp] theorem State.putSettings_bitcnt (s : State) (f : Word) (p : Half) : (s.putSettings f p).bitcnt = s.bitcnt := rfl
@[simp] theorem State.putSettings_rxbuf (s : State) (f : Word) (p : Half) : (s.putSettings f p).rxbuf = s.rxbuf := rfl
@[simp] theorem State.putSettings_rxlen (s : State) (f : Word) (p : Half) : (s.putSettings f p).rxlen = s.rxlen := rfl
@[simp] theorem State.putSettings_tWin (s : State) (f : Word) (p : Half) : (s.putSettings f p).tWin = s.tWin := rfl
@[simp] theorem State.putSettings_tRef (s : State) (f : Word) (p : Half) : (s.putSettings f p).tRef = s.tRef := rfl
@[simp] theorem State.putSettings_txbuf (s : State) (f : Word) (p : Half) : (s.putSettings f p).txbuf = s.txbuf := rfl
@[simp] theorem State.putSettings_txlen (s : State) (f : Word) (p : Half) : (s.putSettings f p).txlen = s.txlen := rfl
@[simp] theorem State.putSettings_txidx (s : State) (f : Word) (p : Half) : (s.putSettings f p).txidx = s.txidx := rfl
@[simp] theorem State.putSettings_txbit (s : State) (f : Word) (p : Half) : (s.putSettings f p).txbit = s.txbit := rfl
@[simp] theorem State.putSettings_freq (s : State) (f : Word) (p : Half) : (s.putSettings f p).freq = f := rfl
@[simp] theorem State.putSettings_power (s : State) (f : Word) (p : Half) : (s.putSettings f p).power = p := rfl
@[simp] theorem State.putSettings_persistErr (s : State) (f : Word) (p : Half) : (s.putSettings f p).persistErr = s.persistErr := rfl
@[simp] theorem State.putSettings_cfg (s : State) (f : Word) (p : Half) : (s.putSettings f p).cfg = s.cfg := rfl
@[simp] theorem State.putSettings_store (s : State) (f : Word) (p : Half) : (s.putSettings f p).store = s.store := rfl
@[simp] theorem State.putSettings_base (s : State) (f : Word) (p : Half) : (s.putSettings f p).base = s.base := rfl
@[simp] theorem State.putSettings_line (s : State) (f : Word) (p : Half) : (s.putSettings f p).line = s.line := rfl
@[simp] theorem State.putSettings_calls (s : State) (f : Word) (p : Half) : (s.putSettings f p).calls = s.calls := rfl
@[simp] theorem State.putSettings_callNo (s : State) (f : Word) (p : Half) : (s.putSettings f p).callNo = s.callNo := rfl
@[simp] theorem State.putSettings_hung (s : State) (f : Word) (p : Half) : (s.putSettings f p).hung = s.hung := rfl
@[simp] theorem State.putSettings_resets (s : State) (f : Word) (p : Half) : (s.putSettings f p).resets = s.resets := rfl
@[simp] theorem State.putSettings_trace (s : State) (f : Word) (p : Half) : (s.putSettings f p).trace = s.trace := rfl

/-! ### `State.signal` -/

@[simp] theorem State.signal_st (s : State) (live : Bool) (c : Condition) : (s.signal live c).st = s.st := rfl
@[simp] theorem State.signal_now (s : State) (live : Bool) (c : Condition) : (s.signal live c).now = s.now := rfl
@[simp] theorem State.signal_dir (s : State) (live : Bool) (c : Condition) : (s.signal live c).dir = s.dir := rfl
@[simp] theorem State.signal_txd (s : State) (live : Bool) (c : Condition) : (s.signal live c).txd = s.txd := rfl
@[simp] theorem State.signal_prev (s : State) (live : Bool) (c : Condition) : (s.signal live c).prev = s.prev := rfl
@[simp] theorem State.signal_shift (s : State) (live : Bool) (c : Condition) : (s.signal live c).shift = s.shift := rfl
@[simp] theorem State.signal_bitcnt (s : State) (live : Bool) (c : Condition) : (s.signal live c).bitcnt = s.bitcnt := rfl
@[simp] theorem State.signal_rxbuf (s : State) (live : Bool) (c : Condition) : (s.signal live c).rxbuf = s.rxbuf := rfl
@[simp] theorem State.signal_rxlen (s : State) (live : Bool) (c : Condition) : (s.signal live c).rxlen = s.rxlen := rfl
@[simp] theorem State.signal_tWin (s : State) (live : Bool) (c : Condition) : (s.signal live c).tWin = s.tWin := rfl
@[simp] theorem State.signal_tRef (s : State) (live : Bool) (c : Condition) : (s.signal live c).tRef = s.tRef := rfl
@[simp] theorem State.signal_txbuf (s : State) (live : Bool) (c : Condition) : (s.signal live c).txbuf = s.txbuf := rfl
@[simp] theorem State.signal_txlen (s : State) (live : Bool) (c : Condition) : (s.signal live c).txlen = s.txlen := rfl
@[simp] theorem State.signal_txidx (s : State) (live : Bool) (c : Condition) : (s.signal live c).txidx = s.txidx := rfl
@[simp] theorem State.signal_txbit (s : State) (live : Bool) (c : Condition) : (s.signal live c).txbit = s.txbit := rfl
@[simp] theorem State.signal_freq (s : State) (live : Bool) (c : Condition) : (s.signal live c).freq = s.freq := rfl
@[simp] theorem State.signal_power (s : State) (live : Bool) (c : Condition) : (s.signal live c).power = s.power := rfl
@[simp] theorem State.signal_persistErr (s : State) (live : Bool) (c : Condition) : (s.signal live c).persistErr = s.persistErr := rfl
@[simp] theorem State.signal_cfg (s : State) (live : Bool) (c : Condition) : (s.signal live c).cfg = s.cfg := rfl
@[simp] theorem State.signal_store (s : State) (live : Bool) (c : Condition) : (s.signal live c).store = s.store := rfl
@[simp] theorem State.signal_base (s : State) (live : Bool) (c : Condition) : (s.signal live c).base = s.base := rfl
@[simp] theorem State.signal_line (s : State) (live : Bool) (c : Condition) : (s.signal live c).line = s.line := rfl
@[simp] theorem State.signal_calls (s : State) (live : Bool) (c : Condition) : (s.signal live c).calls = s.calls := rfl
@[simp] theorem State.signal_callNo (s : State) (live : Bool) (c : Condition) : (s.signal live c).callNo = s.callNo := rfl
@[simp] theorem State.signal_hung (s : State) (live : Bool) (c : Condition) : (s.signal live c).hung = s.hung := rfl
@[simp] theorem State.signal_resets (s : State) (live : Bool) (c : Condition) : (s.signal live c).resets = s.resets := rfl
@[simp] theorem State.signal_trace (s : State) (live : Bool) (c : Condition) : (s.signal live c).trace = if live then s.trace ++ [(s.now, .signal c)] else s.trace := rfl

/-! ### `State.noteSave` -/

@[simp] theorem State.noteSave_st (s : State) (ok : Bool) : (s.noteSave ok).st = s.st := rfl
@[simp] theorem State.noteSave_now (s : State) (ok : Bool) : (s.noteSave ok).now = s.now := rfl
@[simp] theorem State.noteSave_dir (s : State) (ok : Bool) : (s.noteSave ok).dir = s.dir := rfl
@[simp] theorem State.noteSave_txd (s : State) (ok : Bool) : (s.noteSave ok).txd = s.txd := rfl
@[simp] theorem State.noteSave_prev (s : State) (ok : Bool) : (s.noteSave ok).prev = s.prev := rfl
@[simp] theorem State.noteSave_shift (s : State) (ok : Bool) : (s.noteSave ok).shift = s.shift := rfl
@[simp] theorem State.noteSave_bitcnt (s : State) (ok : Bool) : (s.noteSave ok).bitcnt = s.bitcnt := rfl
@[simp] theorem State.noteSave_rxbuf (s : State) (ok : Bool) : (s.noteSave ok).rxbuf = s.rxbuf := rfl
@[simp] theorem State.noteSave_rxlen (s : State) (ok : Bool) : (s.noteSave ok).rxlen = s.rxlen := rfl
@[simp] theorem State.noteSave_tWin (s : State) (ok : Bool) : (s.noteSave ok).tWin = s.tWin := rfl
@[simp] theorem State.noteSave_tRef (s : State) (ok : Bool) : (s.noteSave ok).tRef = s.tRef := rfl
@[simp] theorem State.noteSave_txbuf (s : State) (ok : Bool) : (s.noteSave ok).txbuf = s.txbuf := rfl
@[simp] theorem State.noteSave_txlen (s : State) (ok : Bool) : (s.noteSave ok).txlen = s.txlen := rfl
@[simp] theorem State.noteSave_txidx (s : State) (ok : Bool) : (s.noteSave ok).txidx = s.txidx := rfl
@[simp] theorem State.noteSave_txbit (s : State) (ok : Bool) : (s.noteSave ok).txbit = s.txbit := rfl
@[simp] theorem State.noteSave_freq (s : State) (ok : Bool) : (s.noteSave ok).freq = s.freq := rfl
@[simp] theorem State.noteSave_power (s : State) (ok : Bool) : (s.noteSave ok).power = s.power := rfl
@[simp] theorem State.noteSave_persistErr (s : State) (ok : Bool) : (s.noteSave ok).persistErr = (s.persistErr || !ok) := rfl
@[simp] theorem State.noteSave_cfg (s : State) (ok : Bool) : (s.noteSave ok).cfg = s.cfg := rfl
@[simp] theorem State.noteSave_store (s : State) (ok : Bool) : (s.noteSave ok).store = s.store := rfl
@[simp] theorem State.noteSave_base (s : State) (ok : Bool) : (s.noteSave ok).base = s.base := rfl
@[simp] theorem State.noteSave_line (s : State) (ok : Bool) : (s.noteSave ok).line = s.line := rfl
@[simp] theorem State.noteSave_calls (s : State) (ok : Bool) : (s.noteSave ok).calls = s.calls := rfl
@[simp] theorem State.noteSave_callNo (s : State) (ok : Bool) : (s.noteSave ok).callNo = s.callNo := rfl
@[simp] theorem State.noteSave_hung (s : State) (ok : Bool) : (s.noteSave ok).hung = s.hung := rfl
@[simp] theorem State.noteSave_resets (s : State) (ok : Bool) : (s.noteSave ok).resets = s.resets := rfl
@[simp] theorem State.noteSave_trace (s : State) (ok : Bool) : (s.noteSave ok).trace = if !ok then s.trace ++ [(s.now, .signal .persistWriteFailure)] else s.trace := rfl

/-! ### `State.enterSleep` -/

@[simp] theorem State.enterSleep_st (s : State) : s.enterSleep.st = .sleep := rfl
@[simp] theorem State.enterSleep_now (s : State) : s.enterSleep.now = s.now := rfl
@[simp] theorem State.enterSleep_dir (s : State) : s.enterSleep.dir = s.dir := rfl
@[simp] theorem State.enterSleep_txd (s : State) : s.enterSleep.txd = s.txd := rfl
@[simp] theorem State.enterSleep_prev (s : State) : s.enterSleep.prev = s.prev := rfl
@[simp] theorem State.enterSleep_shift (s : State) : s.enterSleep.shift = s.shift := rfl
@[simp] theorem State.enterSleep_bitcnt (s : State) : s.enterSleep.bitcnt = s.bitcnt := rfl
@[simp] theorem State.enterSleep_rxbuf (s : State) : s.enterSleep.rxbuf = s.rxbuf := rfl
@[simp] theorem State.enterSleep_rxlen (s : State) : s.enterSleep.rxlen = s.rxlen := rfl
@[simp] theorem State.enterSleep_tWin (s : State) : s.enterSleep.tWin = s.tWin := rfl
@[simp] theorem State.enterSleep_tRef (s : State) : s.enterSleep.tRef = s.now := rfl
@[simp] theorem State.enterSleep_txbuf (s : State) : s.enterSleep.txbuf = s.txbuf := rfl
@[simp] theorem State.enterSleep_txlen (s : State) : s.enterSleep.txlen = s.txlen := rfl
@[simp] theorem State.enterSleep_txidx (s : State) : s.enterSleep.txidx = s.txidx := rfl
@[simp] theorem State.enterSleep_txbit (s : State) : s.enterSleep.txbit = s.txbit := rfl
@[simp] theorem State.enterSleep_freq (s : State) : s.enterSleep.freq = s.freq := rfl
@[simp] theorem State.enterSleep_power (s : State) : s.enterSleep.power = s.power := rfl
@[simp] theorem State.enterSleep_persistErr (s : State) : s.enterSleep.persistErr = s.persistErr := rfl
@[simp] theorem State.enterSleep_cfg (s : State) : s.enterSleep.cfg = s.cfg := rfl
@[simp] theorem State.enterSleep_store (s : State) : s.enterSleep.store = s.store := rfl
@[simp] theorem State.enterSleep_base (s : State) : s.enterSleep.base = s.base := rfl
@[simp] theorem State.enterSleep_line (s : State) : s.enterSleep.line = s.line := rfl
@[simp] theorem State.enterSleep_calls (s : State) : s.enterSleep.calls = s.calls := rfl
@[simp] theorem State.enterSleep_callNo (s : State) : s.enterSleep.callNo = s.callNo := rfl
@[simp] theorem State.enterSleep_hung (s : State) : s.enterSleep.hung = s.hung := rfl
@[simp] theorem State.enterSleep_resets (s : State) : s.enterSleep.resets = s.resets := rfl
@[simp] theorem State.enterSleep_trace (s : State) : s.enterSleep.trace = s.trace := rfl

/-! ### `State.enterReceive` -/

@[simp] theorem State.enterReceive_st (s : State) : s.enterReceive.st = .rxSettle := rfl
@[simp] theorem State.enterReceive_now (s : State) : s.enterReceive.now = s.now := rfl
@[simp] theorem State.enterReceive_dir (s : State) : s.enterReceive.dir = .rx := rfl
@[simp] theorem State.enterReceive_txd (s : State) : s.enterReceive.txd = s.txd := rfl
@[simp] theorem State.enterReceive_prev (s : State) : s.enterReceive.prev = s.prev := rfl
@[simp] theorem State.enterReceive_shift (s : State) : s.enterReceive.shift = s.shift := rfl
@[simp] theorem State.enterReceive_bitcnt (s : State) : s.enterReceive.bitcnt = s.bitcnt := rfl
@[simp] theorem State.enterReceive_rxbuf (s : State) : s.enterReceive.rxbuf = s.rxbuf := rfl
@[simp] theorem State.enterReceive_rxlen (s : State) : s.enterReceive.rxlen = 0 := rfl
@[simp] theorem State.enterReceive_tWin (s : State) : s.enterReceive.tWin = s.tWin := rfl
@[simp] theorem State.enterReceive_tRef (s : State) : s.enterReceive.tRef = s.now := rfl
@[simp] theorem State.enterReceive_txbuf (s : State) : s.enterReceive.txbuf = s.txbuf := rfl
@[simp] theorem State.enterReceive_txlen (s : State) : s.enterReceive.txlen = s.txlen := rfl
@[simp] theorem State.enterReceive_txidx (s : State) : s.enterReceive.txidx = s.txidx := rfl
@[simp] theorem State.enterReceive_txbit (s : State) : s.enterReceive.txbit = s.txbit := rfl
@[simp] theorem State.enterReceive_freq (s : State) : s.enterReceive.freq = s.freq := rfl
@[simp] theorem State.enterReceive_power (s : State) : s.enterReceive.power = s.power := rfl
@[simp] theorem State.enterReceive_persistErr (s : State) : s.enterReceive.persistErr = s.persistErr := rfl
@[simp] theorem State.enterReceive_cfg (s : State) : s.enterReceive.cfg = s.cfg := rfl
@[simp] theorem State.enterReceive_store (s : State) : s.enterReceive.store = s.store := rfl
@[simp] theorem State.enterReceive_base (s : State) : s.enterReceive.base = s.base := rfl
@[simp] theorem State.enterReceive_line (s : State) : s.enterReceive.line = s.line := rfl
@[simp] theorem State.enterReceive_calls (s : State) : s.enterReceive.calls = s.calls := rfl
@[simp] theorem State.enterReceive_callNo (s : State) : s.enterReceive.callNo = s.callNo := rfl
@[simp] theorem State.enterReceive_hung (s : State) : s.enterReceive.hung = s.hung := rfl
@[simp] theorem State.enterReceive_resets (s : State) : s.enterReceive.resets = s.resets := rfl
@[simp] theorem State.enterReceive_trace (s : State) : s.enterReceive.trace = s.trace := rfl

/-! ### `State.enterTransmit` -/

@[simp] theorem State.enterTransmit_st (s : State) : s.enterTransmit.st = .txSettle := rfl
@[simp] theorem State.enterTransmit_now (s : State) : s.enterTransmit.now = s.now := rfl
@[simp] theorem State.enterTransmit_dir (s : State) : s.enterTransmit.dir = .tx := rfl
@[simp] theorem State.enterTransmit_txd (s : State) : s.enterTransmit.txd = s.txd := rfl
@[simp] theorem State.enterTransmit_prev (s : State) : s.enterTransmit.prev = s.prev := rfl
@[simp] theorem State.enterTransmit_shift (s : State) : s.enterTransmit.shift = s.shift := rfl
@[simp] theorem State.enterTransmit_bitcnt (s : State) : s.enterTransmit.bitcnt = s.bitcnt := rfl
@[simp] theorem State.enterTransmit_rxbuf (s : State) : s.enterTransmit.rxbuf = s.rxbuf := rfl
@[simp] theorem State.enterTransmit_rxlen (s : State) : s.enterTransmit.rxlen = s.rxlen := rfl
@[simp] theorem State.enterTransmit_tWin (s : State) : s.enterTransmit.tWin = s.tWin := rfl
@[simp] theorem State.enterTransmit_tRef (s : State) : s.enterTransmit.tRef = s.now := rfl
@[simp] theorem State.enterTransmit_txbuf (s : State) : s.enterTransmit.txbuf = s.txbuf := rfl
@[simp] theorem State.enterTransmit_txlen (s : State) : s.enterTransmit.txlen = s.txlen := rfl
@[simp] theorem State.enterTransmit_txidx (s : State) : s.enterTransmit.txidx = s.txidx := rfl
@[simp] theorem State.enterTransmit_txbit (s : State) : s.enterTransmit.txbit = s.txbit := rfl
@[simp] theorem State.enterTransmit_freq (s : State) : s.enterTransmit.freq = s.freq := rfl
@[simp] theorem State.enterTransmit_power (s : State) : s.enterTransmit.power = s.power := rfl
@[simp] theorem State.enterTransmit_persistErr (s : State) : s.enterTransmit.persistErr = s.persistErr := rfl
@[simp] theorem State.enterTransmit_cfg (s : State) : s.enterTransmit.cfg = s.cfg := rfl
@[simp] theorem State.enterTransmit_store (s : State) : s.enterTransmit.store = s.store := rfl
@[simp] theorem State.enterTransmit_base (s : State) : s.enterTransmit.base = s.base := rfl
@[simp] theorem State.enterTransmit_line (s : State) : s.enterTransmit.line = s.line := rfl
@[simp] theorem State.enterTransmit_calls (s : State) : s.enterTransmit.calls = s.calls := rfl
@[simp] theorem State.enterTransmit_callNo (s : State) : s.enterTransmit.callNo = s.callNo := rfl
@[simp] theorem State.enterTransmit_hung (s : State) : s.enterTransmit.hung = s.hung := rfl
@[simp] theorem State.enterTransmit_resets (s : State) : s.enterTransmit.resets = s.resets := rfl
@[simp] theorem State.enterTransmit_trace (s : State) : s.enterTransmit.trace = s.trace := rfl

/-! ### `State.loadAck` -/

@[simp] theorem State.loadAck_st (s : State) : s.loadAck.st = s.st := rfl
@[simp] theorem State.loadAck_now (s : State) : s.loadAck.now = s.now := rfl
@[simp] theorem State.loadAck_dir (s : State) : s.loadAck.dir = s.dir := rfl
@[simp] theorem State.loadAck_txd (s : State) : s.loadAck.txd = s.txd := rfl
@[simp] theorem State.loadAck_prev (s : State) : s.loadAck.prev = s.prev := rfl
@[simp] theorem State.loadAck_shift (s : State) : s.loadAck.shift = s.shift := rfl
@[simp] theorem State.loadAck_bitcnt (s : State) : s.loadAck.bitcnt = s.bitcnt := rfl
@[simp] theorem State.loadAck_rxbuf (s : State) : s.loadAck.rxbuf = s.rxbuf := rfl
@[simp] theorem State.loadAck_rxlen (s : State) : s.loadAck.rxlen = s.rxlen := rfl
@[simp] theorem State.loadAck_tWin (s : State) : s.loadAck.tWin = s.tWin := rfl
@[simp] theorem State.loadAck_tRef (s : State) : s.loadAck.tRef = s.tRef := rfl
@[simp] theorem State.loadAck_txbuf (s : State) : s.loadAck.txbuf = #v[s.cfg.devAddr, s.cfg.ackLenField, s.cfg.cmdBind, s.cfg.ackStatus] := rfl
@[simp] theorem State.loadAck_txlen (s : State) : s.loadAck.txlen = 4 := rfl
@[simp] theorem State.loadAck_txidx (s : State) : s.loadAck.txidx = s.txidx := rfl
@[simp] theorem State.loadAck_txbit (s : State) : s.loadAck.txbit = s.txbit := rfl
@[simp] theorem State.loadAck_freq (s : State) : s.loadAck.freq = s.freq := rfl
@[simp] theorem State.loadAck_power (s : State) : s.loadAck.power = s.power := rfl
@[simp] theorem State.loadAck_persistErr (s : State) : s.loadAck.persistErr = s.persistErr := rfl
@[simp] theorem State.loadAck_cfg (s : State) : s.loadAck.cfg = s.cfg := rfl
@[simp] theorem State.loadAck_store (s : State) : s.loadAck.store = s.store := rfl
@[simp] theorem State.loadAck_base (s : State) : s.loadAck.base = s.base := rfl
@[simp] theorem State.loadAck_line (s : State) : s.loadAck.line = s.line := rfl
@[simp] theorem State.loadAck_calls (s : State) : s.loadAck.calls = s.calls := rfl
@[simp] theorem State.loadAck_callNo (s : State) : s.loadAck.callNo = s.callNo := rfl
@[simp] theorem State.loadAck_hung (s : State) : s.loadAck.hung = s.hung := rfl
@[simp] theorem State.loadAck_resets (s : State) : s.loadAck.resets = s.resets := rfl
@[simp] theorem State.loadAck_trace (s : State) : s.loadAck.trace = s.trace := rfl

end Sys2Proof.Machine
end

