-- ==== Sys2Proof/Laws/Ops.lean ====
section
/-! SUPPORT. For each shared operation, once, everything it can do; later proofs cite these instead of unfolding it. -/

namespace Sys2Proof.Machine

/-! ### Coming transactions -/

/-- Issuing a transaction uses up the first of the coming answers. -/
@[simp] theorem State.issue_callAt (s : State) (ev : Event) (k : Nat) : (s.issue ev).callAt k = s.callAt (k + 1) := by
  have hk : s.callNo + 1 + k = s.callNo + (k + 1) := by omega
  rcases hc : s.calls with _ | ⟨c, cs⟩ <;> simp [State.callAt, State.issue, hc, hk]

/-- Time passing does not change the coming answers. -/
@[simp] theorem State.elapse_callAt (s : State) (n k : Nat) : (s.elapse n).callAt k = s.callAt k := rfl

/-- Nor does noting the answer of a save. -/
@[simp] theorem State.noteSave_callAt (s : State) (ok : Bool) (k : Nat) : (s.noteSave ok).callAt k = s.callAt k := rfl

@[simp] theorem State.commit_callAt (s : State) (ok : Bool) (k : Nat) : (s.commit ok).callAt k = s.callAt k := rfl

@[simp] theorem State.putSettings_callAt (s : State) (f : Word) (p : Half) (k : Nat) :
    (s.putSettings f p).callAt k = s.callAt k := rfl

@[simp] theorem State.goto_callAt (s : State) (q : Seq) (k : Nat) : (s.goto q).callAt k = s.callAt k := rfl

@[simp] theorem State.enterSleep_callAt (s : State) (k : Nat) : s.enterSleep.callAt k = s.callAt k := rfl

@[simp] theorem State.signal_callAt (s : State) (live : Bool) (c : Condition) (k : Nat) :
    (s.signal live c).callAt k = s.callAt k := rfl

/-- The answers depend on the environment's part of the state only. -/
theorem State.callAt_congr {s t : State} (hc : t.calls = s.calls) (hn : t.callNo = s.callNo) (k : Nat) :
    t.callAt k = s.callAt k := by simp [State.callAt, hc, hn]

/-- In a calm state every coming transaction takes its finite cost. -/
theorem State.Calm.ticks {s : State} (h : s.Calm) (k : Nat) : (s.callAt k).ticks = some (s.callAt k).cost := by
  unfold Call.cost State.callAt
  split
  · rename_i c hc
    have := h.2 c (List.mem_of_getElem? hc)
    cases ht : c.ticks
    · exact absurd ht this
    · rfl
  · rfl

/-! ### One transaction -/

/-- With no reset coming and a finite duration, a live transaction is issued, completes, and the rule goes on. -/
theorem transact_completes {s : State} {ev : Event} {k : Call → State → Out} {n : Nat} (hr : s.resets = [])
    (ht : (s.callAt 0).ticks = some n) : transact true ev s k = k (s.callAt 0) ((s.issue ev).elapse n) := by
  simp [transact, ht, State.resetWithin, hr]

/-- A transaction that is not live does nothing. -/
@[simp] theorem transact_not_live (s : State) (ev : Event) (k : Call → State → Out) :
    transact false ev s k = k (s.callAt 0) s := by
  unfold transact
  split <;> simp

/-- Everything a live transaction can do: it completes and the rule goes on, a reset abandons it, or the block is stuck in it. -/
theorem transact_cases (s : State) (ev : Event) (k : Call → State → Out) :
    (∃ n, (s.callAt 0).ticks = some n ∧ transact true ev s k = k (s.callAt 0) ((s.issue ev).elapse n)) ∨
      (s.resets ≠ [] ∧ transact true ev s k = .next (s.issue ev).takeReset) ∨
      ((s.callAt 0).ticks = none ∧ s.resets = [] ∧ transact true ev s k = .next ((s.issue ev).hang ev)) := by
  rcases ht : (s.callAt 0).ticks with _ | n
  · rcases hr : s.resets with _ | ⟨r, rs⟩ <;> simp [transact, ht, hr]
  · rcases hr : s.resets with _ | ⟨r, rs⟩
    · simp [transact, ht, hr, State.resetWithin]
    · by_cases hw : r ≤ s.wall + n <;> simp [transact, ht, hr, State.resetWithin, hw]

/-- The same, whether live or not. -/
theorem transact_live_cases (live : Bool) (s : State) (ev : Event) (k : Call → State → Out) :
    (∃ n, transact live ev s k = k (s.callAt 0) (if live then (s.issue ev).elapse n else s)) ∨
      transact live ev s k = .next (s.issue ev).takeReset ∨
      ((s.callAt 0).ticks = none ∧ transact live ev s k = .next ((s.issue ev).hang ev)) := by
  cases live
  · exact .inl ⟨0, by simp⟩
  · rcases transact_cases s ev k with ⟨n, _, h⟩ | ⟨_, h⟩ | ⟨ht, _, h⟩
    · exact .inl ⟨n, by simpa using h⟩
    · exact .inr (.inl h)
    · exact .inr (.inr ⟨ht, h⟩)

/-- With no reset coming, a live transaction that never completes leaves the block stuck after issuing it. -/
theorem transact_hangs {s : State} {ev : Event} {k : Call → State → Out} (hr : s.resets = [])
    (ht : (s.callAt 0).ticks = none) : transact true ev s k = .next ((s.issue ev).hang ev) := by
  simp [transact, ht, hr]

/-- Only an answer that is listed can say that its transaction never completes. -/
theorem State.callAt_ticks_none {s : State} {k : Nat} (h : (s.callAt k).ticks = none) : ∃ c ∈ s.calls, c.ticks = none := by
  unfold State.callAt at h
  split at h
  · rename_i c hc
    exact ⟨c, List.mem_of_getElem? hc, h⟩
  · simp [freeCall] at h

/-- Where the block is not stuck, the rule runs. -/
theorem unlessHung_free {s : State} (h : s.hung = none) (rule : State → Out) : unlessHung rule s = rule s := by
  simp [unlessHung, h]

/-- Where it is stuck, a tick passes. -/
theorem unlessHung_stuck {s : State} (h : s.hung ≠ none) (rule : State → Out) : unlessHung rule s = .next s.tick := by
  unfold unlessHung
  split
  · exact absurd ‹_› h
  · rfl

/-! ### Transactions of a calm state: issued, completed, and the rule goes on -/

/-- Calm depends on the environment's part of the state only. -/
theorem State.Calm.congr {s t : State} (h : s.Calm) (hr : t.resets = s.resets) (hc : t.calls = s.calls) : t.Calm := by
  unfold State.Calm at *
  rw [hr, hc]
  exact h

/-- A calm state is calm after a transaction. -/
theorem State.Calm.after {s : State} (h : s.Calm) (ev : Event) (n : Nat) : ((s.issue ev).elapse n).Calm :=
  ⟨h.1, fun c hc => h.2 c (List.mem_of_mem_drop hc)⟩

theorem State.Calm.commit {s : State} (h : s.Calm) (ok : Bool) : (s.commit ok).Calm := h

theorem State.Calm.noteSave {s : State} (h : s.Calm) (ok : Bool) : (s.noteSave ok).Calm := h

theorem State.Calm.putSettings {s : State} (h : s.Calm) (f : Word) (p : Half) : (s.putSettings f p).Calm := h

theorem State.Calm.signal {s : State} (h : s.Calm) (live : Bool) (c : Condition) : (s.signal live c).Calm := h

theorem State.Calm.enterSleep {s : State} (h : s.Calm) : s.enterSleep.Calm := h

theorem State.Calm.goto {s : State} (h : s.Calm) (q : Seq) : (s.goto q).Calm := h

theorem radioCall_calm {s : State} (h : s.Calm) (op : RadioOp) (arg : Word) (k : State → Out) :
    radioCall op arg s k = k ((s.issue (.radio op arg)).elapse (s.callAt 0).cost) :=
  transact_completes h.1 (h.ticks 0)

theorem diagCall_calm {s : State} (h : s.Calm) (d : Diag) (k : State → Out) :
    diagCall true d s k = k ((s.issue (.diag d)).elapse (s.callAt 0).cost) :=
  transact_completes h.1 (h.ticks 0)

@[simp] theorem diagCall_not_live (s : State) (d : Diag) (k : State → Out) : diagCall false d s k = k s :=
  transact_not_live s _ _

theorem loadCall_calm {s : State} (h : s.Calm) (k : Option (Word × Half) → State → Out) :
    loadCall s k =
      k (if (s.callAt 0).readable then s.store else none) ((s.issue .load).elapse (s.callAt 0).cost) :=
  transact_completes h.1 (h.ticks 0)

theorem saveCall_calm {s : State} (h : s.Calm) (k : Bool → State → Out) :
    saveCall s k =
      k (s.callAt 0).ok
        (((s.issue (.save s.freq s.power)).elapse (s.callAt 0).cost).commit (s.callAt 0).ok) :=
  transact_completes h.1 (h.ticks 0)

/-- What `Config.wf` says, as propositions. -/
theorem config_wf_iff (c : Config) :
    c.wf = true ↔ c.cmdSet ≠ c.cmdBind ∧ 3 ≤ c.minPktLen ∧ 4 ≤ c.setMinPayload ∧ 1 ≤ c.poll ∧ c.rxbufMax ≤ 256 ∧
      0 < c.freqScale ∧ c.freqScale ≤ 65535 := by
  simp [Config.wf, and_assoc]

/-! ### The line -/

/-- The first run of a waveform gives the level during it; after it the others do. -/
@[simp] theorem levelAt_cons (r : Run) (rs : List Run) (t : Nat) :
    levelAt (r :: rs) t = if t < r.ticks then some r.level else levelAt rs (t - r.ticks) := rfl

/-- The line at a tick depends on the waveform and on when the latest reset was released, on nothing else. -/
theorem State.levelOn_congr {s t : State} (hl : t.line = s.line) (hb : t.base = s.base) (n : Nat) :
    t.levelOn n = s.levelOn n := by simp [State.levelOn, hl, hb]

/-! ### Bits and bytes -/

/-- `b[i] <- v` sets bit `i` and leaves every other bit. -/
theorem setBit_getLsbD (b : Byte) (i j : Nat) (v : Bool) (hi : i < 8) :
    (setBit b i v).getLsbD j = if j = i then v else b.getLsbD j := by
  by_cases hj : j < 8
  · cases v <;> by_cases h : j = i <;> simp [setBit, h, hi, hj]
  · have : j ≠ i := by omega
    simp [this, BitVec.getLsbD_of_ge _ _ (by omega : 8 ≤ j)]

/-- The eight bits of a byte in line order, by place. -/
theorem bitsOf_getElem? (o : BitOrder) (b : Byte) (n : Nat) (h : n < 8) :
    (bitsOf o b)[n]? = some (b.getLsbD (bitIndex o n)) := by simp [bitsOf, h]

@[simp] theorem bitsOf_length (o : BitOrder) (b : Byte) : (bitsOf o b).length = 8 := by simp [bitsOf]

@[simp] theorem bitsOf_getElem (o : BitOrder) (b : Byte) (n : Nat) (h : n < (bitsOf o b).length) :
    (bitsOf o b)[n] = b.getLsbD (bitIndex o n) := by simp [bitsOf]

@[simp] theorem frameBits_length (c : Config) (b : Byte) : (frameBits c b).length = frameLen c := by
  simp [frameBits, frameLen, Nat.add_assoc]

/-- A 16-bit operand is made of its two bytes, the first the less significant. -/
theorem le16_bytes (v : Half) : le16 (loByte v) (hiByte v) = v := by
  apply BitVec.eq_of_getLsbD_eq
  intro i hi
  simp only [le16, loByte, hiByte, BitVec.getLsbD_or, BitVec.getLsbD_setWidth, BitVec.getLsbD_shiftLeft,
    BitVec.getLsbD_ushiftRight, BitVec.truncate_eq_setWidth]
  by_cases h : i < 8
  · simp [h]; omega
  · have h8 : 8 + (i - 8) = i := by omega
    have h9 : i - 8 < 8 := by omega
    have h10 : i - 8 < 16 := by omega
    simp [h, h8, h9, h10, hi]

theorem loByte_le16 (lo hi : Byte) : loByte (le16 lo hi) = lo := by
  apply BitVec.eq_of_getLsbD_eq
  intro i h
  simp [le16, loByte, h]

theorem hiByte_le16 (lo hi : Byte) : hiByte (le16 lo hi) = hi := by
  apply BitVec.eq_of_getLsbD_eq
  intro i h
  have h8 : ¬ 8 + i < 8 := by omega
  have h16 : 8 + i < 16 := by omega
  simp [le16, hiByte, h, h16]

/-! ### The transmitter -/

/-- With an index inside `TXBUF` and a bit inside the frame there is a level to drive. -/
theorem State.txLevel_some (s : State) (hi : s.txidx < 4) (hb : s.txbit < frameLen s.cfg) : ∃ v, s.txLevel = some v := by
  have hb' : s.txbit < (frameBits s.cfg s.txbuf[s.txidx]).length := by simpa using hb
  exact ⟨_, by simp [State.txLevel, hi, List.getElem?_eq_getElem hb']; rfl⟩

/-- `LOADBIT` drives the selected level and starts its time, or finds no bit to drive. -/
theorem loadBit_cases (s : State) (k : State → State) :
    (∃ v, s.txLevel = some v ∧ loadBit s k = .next (k { s with txd := v, tRef := s.now })) ∨
      (s.txLevel = none ∧ loadBit s k = .fault .txbufOutOfRange) := by
  unfold loadBit
  rcases h : s.txLevel with _ | v
  · exact .inr ⟨rfl, rfl⟩
  · exact .inl ⟨v, rfl, rfl⟩

end Sys2Proof.Machine
end

