-- ==== Sys2Proof/Laws/PerInstr.lean ====
section
/-! SUPPORT. Per instruction: the encoder writes as many bytes as the format has (spec 30 R96 to R99). -/

namespace Sys2Proof.Laws

/-- The packet of an instruction has its size, whatever the parameters. -/
def EncodedSize.Statement (i : Instr) : Prop := ∀ c : Config, (encode c i).length = i.size

theorem EncodedSize.set (len : Byte) (power freq10 : Half) (tail : List Byte) :
    EncodedSize.Statement (.set len power freq10 tail) := by
  intro c
  simp [encode, Instr.size]
  omega

theorem EncodedSize.bind (len : Byte) (tail : List Byte) : EncodedSize.Statement (.bind len tail) := by
  intro c
  simp [encode, Instr.size]
  omega

theorem EncodedSize.bindAck : EncodedSize.Statement .bindAck := fun _ => rfl

end Sys2Proof.Laws
end

