-- ==== Sys2Proof/Laws/Step.lean ====
section
/-! SUPPORT. Steps and runs: the rule a step runs, runs put together, and the waits of the tick states. -/

namespace Sys2Proof.Machine

/-- With no reset coming none is due. -/
theorem resetDue_of_nil {s : State} (h : s.resets = []) : s.resetDue = false := by
  simp [State.resetDue, State.resetWithin, h]

/-- With no reset due, a step runs the rule of the state. -/
theorem step_of_not_due {s : State} (h : s.resetDue = false) : step s = runRule s := by simp [step, h]

/-- With no reset coming, a step runs the rule of the state. -/
theorem step_of_nil (s : State) (h : s.resets = []) : step s = runRule s := step_of_not_due (resetDue_of_nil h)

/-- With a reset due, a step takes it. -/
theorem step_of_due {s : State} (h : s.resetDue = true) : step s = .next s.takeReset := by simp [step, h]

/-- A step that answers a next state is a reset or a rule's. -/
theorem step_next_cases {s t : State} (h : step s = .next t) :
    (s.resetDue = true ∧ t = s.takeReset) ∨ (s.resetDue = false ∧ runRule s = .next t) := by
  cases hd : s.resetDue
  · exact .inr ⟨rfl, by simpa [step_of_not_due hd] using h⟩
  · refine .inl ⟨rfl, ?_⟩
    rw [step_of_due hd] at h
    injection h with h
    exact h.symm

@[simp] theorem run_zero (s : State) : s.run 0 = .next s := rfl

/-- One step, then the rest. -/
theorem run_succ_of_next {s t : State} (h : step s = .next t) (k : Nat) : s.run (k + 1) = t.run k := by
  simp [State.run, h]

/-- Two runs make one. -/
theorem run_add {s t : State} {m : Nat} (h : s.run m = .next t) (n : Nat) : s.run (m + n) = t.run n := by
  induction m generalizing s with
  | zero =>
    simp only [run_zero] at h
    injection h with h
    rw [Nat.zero_add, h]
  | succ m ih =>
    rw [Nat.succ_add]
    rcases hs : step s with u | r | r
    · rw [run_succ_of_next hs] at h ⊢
      exact ih h
    · simp [State.run, hs] at h
    · simp [State.run, hs] at h

/-- The run of a wait: as long as each step only lets a tick pass, the run is the ticks. -/
theorem run_wait (s : State) (n : Nat)
    (h : ∀ j, j < n → step { s with now := s.now + j } = .next { s with now := s.now + (j + 1) }) :
    s.run n = .next { s with now := s.now + n } := by
  induction n with
  | zero => rfl
  | succ n ih =>
    rw [run_add (ih fun j hj => h j (by omega)) 1, run_succ_of_next (h n (by omega))]
    rfl

end Sys2Proof.Machine
end

