-- ==== Sys2Proof/Laws/Pins.lean ====
section
/-! SUPPORT. The ports tick by tick: an evaluation that consumes the tick shows its own state's pins, one that does not passes
the question on, and more fuel changes no answer. -/

namespace Sys2Proof.Machine

@[simp] theorem State.pins_oe (s : State) : s.pins.oe = s.pinOe := rfl
@[simp] theorem State.pins_out (s : State) : s.pins.out = s.pinOut := rfl
@[simp] theorem evaluationAt_zero (s : State) (t : Nat) : s.evaluationAt 0 t = none := rfl

/-! ### The evaluation that consumes a tick -/

/-- The first evaluation, where it reaches past tick `t`. -/
theorem evaluationAt_here {s u : State} (h : step s = .next u) {t : Nat} (h1 : s.wall ≤ t) (h2 : t < u.wall) (k : Nat) :
    s.evaluationAt (k + 1) t = some (s, u) := by simp [State.evaluationAt, Nat.not_lt.2 h1, h, h2]

/-- An evaluation that does not reach past tick `t` leaves it to its successor. -/
theorem evaluationAt_next {s u : State} (h : step s = .next u) {t : Nat} (h1 : s.wall ≤ t) (h2 : u.wall ≤ t) (k : Nat) :
    s.evaluationAt (k + 1) t = u.evaluationAt k t := by simp [State.evaluationAt, Nat.not_lt.2 h1, h, Nat.not_lt.2 h2]

/-- What the evaluation that consumes tick `t` is: a step of a state at or before the tick that reaches past it. -/
theorem evaluationAt_some {s : State} {k t : Nat} {e : State × State} (h : s.evaluationAt k t = some e) :
    e.1.wall ≤ t ∧ t < e.2.wall ∧ step e.1 = .next e.2 := by
  induction k generalizing s with
  | zero => simp at h
  | succ k ih =>
    by_cases hw : t < s.wall
    · simp [State.evaluationAt, hw] at h
    · rcases hs : step s with u | f | r
      · by_cases hu : t < u.wall
        · rw [evaluationAt_here hs (Nat.not_lt.1 hw) hu] at h
          injection h with h
          subst h
          exact ⟨Nat.not_lt.1 hw, hu, hs⟩
        · rw [evaluationAt_next hs (Nat.not_lt.1 hw) (Nat.not_lt.1 hu)] at h
          exact ih h
      · simp [State.evaluationAt, hw, hs] at h
      · simp [State.evaluationAt, hw, hs] at h

/-- More fuel gives the same answer. -/
theorem evaluationAt_mono {s : State} {k t : Nat} {e : State × State} (h : s.evaluationAt k t = some e) (m : Nat) :
    s.evaluationAt (k + m) t = some e := by
  induction k generalizing s with
  | zero => simp at h
  | succ k ih =>
    rw [Nat.succ_add]
    by_cases hw : t < s.wall
    · simp [State.evaluationAt, hw] at h
    · rcases hs : step s with u | f | r
      · by_cases hu : t < u.wall
        · rw [evaluationAt_here hs (Nat.not_lt.1 hw) hu] at h ⊢
          exact h
        · rw [evaluationAt_next hs (Nat.not_lt.1 hw) (Nat.not_lt.1 hu)] at h ⊢
          exact ih h
      · simp [State.evaluationAt, hw, hs] at h
      · simp [State.evaluationAt, hw, hs] at h

/-! ### Pins -/

@[simp] theorem pinsDuring_zero (s : State) (t : Nat) : s.pinsDuring 0 t = none := rfl

/-- The evaluation that consumes tick `t` shows the pins of its state. -/
theorem pinsDuring_here {s u : State} (h : step s = .next u) {t : Nat} (h1 : s.wall ≤ t) (h2 : t < u.wall) (k : Nat) :
    s.pinsDuring (k + 1) t = some s.pins := by simp [State.pinsDuring, evaluationAt_here h h1 h2]

/-- An evaluation that does not reach past tick `t` leaves it to its successor. -/
theorem pinsDuring_next {s u : State} (h : step s = .next u) {t : Nat} (h1 : s.wall ≤ t) (h2 : u.wall ≤ t) (k : Nat) :
    s.pinsDuring (k + 1) t = u.pinsDuring k t := by simp [State.pinsDuring, evaluationAt_next h h1 h2]

/-- More fuel gives the same answer. -/
theorem pinsDuring_mono {s : State} {k t : Nat} {p : Pins} (h : s.pinsDuring k t = some p) (m : Nat) :
    s.pinsDuring (k + m) t = some p := by
  obtain ⟨e, he, rfl⟩ := Option.map_eq_some_iff.1 h
  simp [State.pinsDuring, evaluationAt_mono he m]

/-! ### Ports -/

/-- A run that is past the tick has no more handshakes in it. -/
@[simp] theorem handshakesIn_past {s : State} {t : Nat} (h : t < s.wall) (k : Nat) : s.handshakesIn k t = some [] := by
  cases k <;> simp [State.handshakesIn, h]

/-- An evaluation at or before the tick has its own handshakes in it, before those of its successor. -/
theorem handshakesIn_step {s u : State} (h : step s = .next u) {t : Nat} (h1 : s.wall ≤ t) (k : Nat) :
    s.handshakesIn (k + 1) t =
      (u.handshakesIn k t).map fun hs => (s.spansTo u).flatMap (fun p => p.handshakes (t - s.base)) ++ hs := by
  simp [State.handshakesIn, Nat.not_lt.2 h1, h]

/-- The ports in a tick that the first evaluation consumes. -/
theorem portsDuring_here {s u : State} (h : step s = .next u) {t : Nat} (h1 : s.wall ≤ t) (h2 : t < u.wall) (k : Nat) :
    s.portsDuring (k + 1) t =
      some
        { pins := s.pins, persistErr := s.persistErrTo u (t - s.base), held := s.heldTo u (t - s.base)
          handshakes := (s.spansTo u).flatMap fun p => p.handshakes (t - s.base) } := by
  simp [State.portsDuring, evaluationAt_here h h1 h2, handshakesIn_step h h1, h2]

/-- The ports show the pins that `pinsDuring` gives. -/
theorem portsDuring_pins {s : State} {k t : Nat} {p : Ports} (h : s.portsDuring k t = some p) :
    s.pinsDuring k t = some p.pins := by
  obtain ⟨e, he, h⟩ := Option.bind_eq_some_iff.1 h
  obtain ⟨hs, _, rfl⟩ := Option.map_eq_some_iff.1 h
  simp [State.pinsDuring, he]

end Sys2Proof.Machine
end

