-- ==== Sys2Proof/Tests/Slice0.lean ====
section
/-! SUPPORT. Tests on fixed values (expected results from spec 95_test_vectors.md and the tables of spec 30), and for every
statement with hypotheses a concrete state that meets them. -/

namespace Sys2Proof.Tests

open Sys2Proof
open Sys2Proof.Machine

/-! ## Well-formedness: each check refuses a term that breaks it -/

theorem test_wf_set : (Instr.set 5 100 8802 [0]).wf {} = true := by decide
theorem test_wf_bind : (Instr.bind 2 [0, 0, 0]).wf {} = true := by decide
theorem test_wf_bindAck : Instr.bindAck.wf {} = true := by decide

/-- Seven bytes: long enough for the Validator, not for a `SET` to act (30 R103). -/
theorem test_wf_set_truncated : (Instr.set 5 100 8802 []).wf {} = false := by decide
theorem test_wf_set_below_minimum : (Instr.set 5 100 8802 [0]).wf { minPktLen := 9 } = false := by decide
theorem test_wf_set_too_long : (Instr.set 5 100 8802 [0, 0, 0]).wf { rxbufMax := 9 } = false := by decide
theorem test_wf_bind_too_short : (Instr.bind 2 [0, 0]).wf {} = false := by decide
theorem test_wf_bind_too_long : (Instr.bind 2 [0, 0, 0, 0]).wf { rxbufMax := 6 } = false := by decide
theorem test_cfg_wf : Config.wf {} = true := by decide
theorem test_cfg_same_commands : Config.wf { cmdBind := 0x10 } = false := by decide
theorem test_cfg_minPktLen : Config.wf { minPktLen := 2 } = false := by decide
theorem test_cfg_setMinPayload : Config.wf { setMinPayload := 3 } = false := by decide
theorem test_cfg_poll : Config.wf { poll := 0 } = false := by decide
theorem test_cfg_rxbufMax : Config.wf { rxbufMax := 257 } = false := by decide
theorem test_cfg_freqScale : Config.wf { freqScale := 0 } = false := by decide
theorem test_cfg_freqScale_wide : Config.wf { freqScale := 65536 } = false := by decide

/-! ## Decoding: words written out from the spec's encodings -/

/-- V-ENC-2: the length byte is masked out; operand bytes above the word are 0. -/
theorem test_word_set : decodeTableWord 24 0xEE0510 = some (.set 0x05 0 0 [0]) := by decide
theorem test_word_set_any_length_byte : decodeTableWord 24 0xEEFF10 = some (.set 0xFF 0 0 [0]) := by decide
theorem test_word_bind : decodeTableWord 24 0xEE0220 = some (.bind 0x02 [0, 0, 0, 0, 0]) := by decide
/-- V-ENC-3. -/
theorem test_word_bindAck : decodeTableWord 32 0xEE022001 = some .bindAck := by decide
theorem test_word_unrecognised : decodeTableWord 24 0xEE0530 = none := by decide
theorem test_word_wrong_address : decodeTableWord 24 0xC80510 = none := by decide
theorem test_word_other_status : decodeTableWord 32 0xEE022000 = none := by decide
/-- V-ENC-4, and the operands of V-ENC-5. -/
theorem test_packet_set_max :
    decodePacket {} [0xEE, 0x05, 0x10, 0xFF, 0xFF, 0xFF, 0xFF, 0x00] = .ok (.set 0x05 65535 65535 [0]) := by rfl
theorem test_le16 : le16 0x64 0x00 = 100 ∧ le16 0x00 0x64 = 25600 ∧ le16 0xE8 0x03 = 1000 ∧ le16 0x34 0x12 = 4660 := by
  decide
theorem test_encode_set :
    encode {} (.set 0x05 1000 9150 [0]) = [0xEE, 0x05, 0x10, 0xE8, 0x03, 0xBE, 0x23, 0x00] := by decide
theorem test_encode_bind : encode {} (.bind 0x02 [1, 2, 3]) = [0xEE, 0x02, 0x20, 0x01, 0x02, 0x03] := by decide
/-- V-ENC-6: the bits of 0xEE in line order, and the other order. -/
theorem test_bits_lsb : bitsOf .lsbFirst 0xEE = [false, true, true, true, false, true, true, true] := by decide
theorem test_bits_msb : bitsOf .msbFirst 0x01 = [false, false, false, false, false, false, false, true] := by decide

/-! ## Rows of V-F32 -/

theorem test_f32_0 : f32OfTenths 0 = 0x00000000 := by decide
theorem test_f32_1 : f32OfTenths 1 = 0x3DCCCCCD := by decide
theorem test_f32_3 : f32OfTenths 3 = 0x3E99999A := by decide
theorem test_f32_5 : f32OfTenths 5 = 0x3F000000 := by decide
theorem test_f32_4330 : f32OfTenths 4330 = 0x43D88000 := by decide

/-! ## A small state: a known line, an empty store, four answered transactions -/

/-- The state after reset with the environment written out. -/
def quiet : State :=
  { State.reset with
    store := none
    line := [⟨true, 100⟩, ⟨false, 100⟩]
    calls := [⟨some 3, true, true, false⟩, ⟨some 4, true, true, false⟩, ⟨some 5, true, true, false⟩,
      ⟨some 6, true, true, false⟩, ⟨some 0, true, true, false⟩, ⟨some 1, true, true, false⟩] }

/-- The same with the third answer a failed save. -/
def failing : State :=
  { quiet with calls := [⟨some 3, true, true, false⟩, ⟨some 4, true, true, false⟩, ⟨some 5, true, false, true⟩,
      ⟨some 6, true, true, false⟩] }

/-- The block at rest in a sequencer state, at tick 20. -/
def at_ (q : Seq) : State := { quiet with st := q, now := 20, tRef := 20, tWin := 20 }

/-- A received packet at rest in a sequencer state. -/
def holding (q : Seq) (bytes : List Byte) : State := { at_ q with rxbuf := cellsOf bytes, rxlen := bytes.length }

/-- The transmitter with the acknowledgement loaded. -/
def sending (q : Seq) : State := { (at_ q).loadAck with dir := .tx }

/-- The `SET p=100 f=8802` and the `BIND` of V-ENC-4. -/
def setPacket : List Byte := [0xEE, 0x05, 0x10, 0x64, 0x00, 0x62, 0x22, 0x00]

def bindPacket : List Byte := [0xEE, 0x02, 0x20, 0x01, 0x02, 0x03]

/-- What a `SET` leaves: settings, store and time. -/
theorem test_set :
    (match exec (.set 5 100 8802 [0]) (holding .setExec setPacket) with
      | .next t => decide (t.freq = f32OfTenths 8802 ∧ t.power = 100 ∧ t.store = some (f32OfTenths 8802, 100) ∧
          t.now = 32 ∧ t.st = .sleep ∧ t.persistErr = false)
      | .fault _ | .refused _ => false) = true := by decide
theorem test_set_failed_save :
    (match exec (.set 5 100 8802 [0]) failing with
      | .next t => decide (t.power = 100 ∧ t.persistErr = true ∧ t.now = 18 ∧ t.trace.length = 5)
      | .fault _ | .refused _ => false) = true := by decide
theorem test_bind :
    (match exec (.bind 2 [1, 2, 3]) (holding .dispatch bindPacket) with
      | .next t => decide (t.txBytes = [0xEE, 0x02, 0x20, 0x01] ∧ t.pinOe = true ∧ t.st = .txSettle)
      | .fault _ | .refused _ => false) = true := by decide
/-- V-TX: bit 1 of 0xEE is a high level. -/
theorem test_bindAck :
    (match exec .bindAck { sending .txBit with now := 78 } with
      | .next t => decide (t.pinOut = true ∧ t.txbit = 1 ∧ t.tRef = 78)
      | .fault _ | .refused _ => false) = true := by decide

/-- A placed word is what the next step runs. -/
theorem test_fetch_set : fetch (quiet.withFetchWord 24 0xEE0510) = some (.set 5 0 0 [0]) := by decide
theorem test_fetch_bind : fetch (quiet.withFetchWord 24 0xEE0220) = some (.bind 2 [0, 0, 0, 0, 0]) := by decide
theorem test_fetch_bindAck : fetch (quiet.withFetchWord 32 0xEE022001) = some .bindAck := by decide

/-- The ports of 44 R208 during the transactions of a `SET`. -/
theorem test_signals :
    (Event.radio .setTxPower 100).signals.radio = some (1, 100) ∧ (Event.save 7 8).signals.store = some 1 ∧
      (Event.save 7 8).signals.storeWrite = some (7, 8) ∧ Event.load.signals.store = some 0 ∧
      (Event.diag .persistFail).signals.diag = some 3 := by decide

/-- R30: in the tick in which `IDLE` is evaluated after a `BIND` the line is released; in the tick of a `BIND`'s dispatch it is
driven. -/
theorem test_pins_idle_after_bind : State.pinsDuring 2 20 { at_ .idle with dir := .tx } = some { oe := false, out := true } := by
  rfl
theorem test_pins_dispatch_of_bind : State.pinsDuring 2 20 (holding .dispatch bindPacket) = some { oe := true, out := true } := by
  rfl

/-- A `SET` whose save never completes: what comes before it is done, and the block waits in `SET_EXEC` (R207). -/
def stuckSave : State :=
  { holding .setExec setPacket with calls := [⟨some 3, true, true, false⟩, ⟨some 4, true, true, false⟩, ⟨none, true, true, false⟩] }

theorem test_stuck :
    (match step stuckSave with
      | .next t => decide (t.st = .setExec ∧ t.power = 100 ∧ t.store = none ∧ t.now = 28 ∧ t.trace.length = 3)
      | .fault _ | .refused _ => false) = true := by decide

/-- `SET_EXEC` with a failed save. -/
def failingSave : State := { holding .setExec setPacket with calls := failing.calls }

/-- The radio operations begin in ticks 20 and 23, the save in tick 27, the diagnostic in tick 32 and ends in tick 38 (R207). -/
theorem test_ports :
    (failingSave.portsDuring 2 31).map (fun q => (q.storeReq, q.storeDone, q.diagReq, q.persistErr)) =
      some (true, false, false, false) ∧
    (failingSave.portsDuring 2 32).map (fun q => (q.storeReq, q.storeDone, q.diagReq, q.persistErr)) =
      some (false, true, true, true) ∧
    (failingSave.portsDuring 2 37).map (fun q => (q.held, q.diagReq, q.persistErr)) =
      some (some (.diag .persistFail), false, true) := ⟨rfl, rfl, rfl⟩

/-! ## Witnesses: the hypotheses of every statement can be met, each clause at a boundary of its range -/

theorem witness_DecodeOfEncodeIsTheInstruction :
    ∃ c : Config, c.wf = true ∧ (Instr.set 5 65535 0 [0]).wf c = true ∧ (Instr.bind 0xFF [1, 2, 3]).wf c = true ∧
      Instr.bindAck.wf c = true := ⟨{}, by decide⟩

theorem witness_EncodeOfDecodedPacketIsTheBuffer :
    ∃ (c : Config) (buf : List Byte) (i : Instr), decodePacket c buf = .ok i := ⟨{}, setPacket, .set 5 100 8802 [0], rfl⟩

theorem witness_StepRunsTheDecodedInstruction_set :
    ∃ s : State, s.resetDue = false ∧ s.st = .setExec ∧ s.hung = none ∧
      decodePacket s.cfg s.buffer = .ok (.set 5 100 8802 [0]) := ⟨holding .setExec setPacket, by decide, rfl, rfl, rfl⟩

theorem witness_StepRunsTheDecodedInstruction_bind :
    ∃ s : State, s.resetDue = false ∧ s.st = .dispatch ∧ decodePacket s.cfg s.buffer = .ok (.bind 2 [1, 2, 3]) :=
  ⟨holding .dispatch bindPacket, by decide, rfl, rfl⟩

theorem witness_StepRunsTheDecodedInstruction_ack :
    ∃ s : State, s.resetDue = false ∧ s.st.transmitting = true ∧ decodeAck s.cfg s.txBytes = .ok .bindAck :=
  ⟨sending .txGap, by decide, rfl, rfl⟩

theorem witness_StepRunsTheDecodedInstruction_dispatch :
    ∃ s : State, s.resetDue = false ∧ s.st = .dispatch ∧ decodePacket s.cfg s.buffer = .ok (.set 5 100 8802 [0]) :=
  ⟨holding .dispatch setPacket, by decide, rfl, rfl⟩

theorem witness_EncodedPacketIsValidatedDispatchedAndRun_set :
    ∃ s : State, s.st = .validate ∧ s.resets = [] ∧ s.hung = none ∧ s.cfg.wf = true ∧
      (Instr.set 5 100 8802 [0]).wf s.cfg = true ∧ s.buffer = encode s.cfg (.set 5 100 8802 [0]) := ⟨holding .validate setPacket, by decide⟩

theorem witness_EncodedPacketIsValidatedDispatchedAndRun_bind :
    ∃ s : State, s.st = .validate ∧ s.resets = [] ∧ s.hung = none ∧ s.cfg.wf = true ∧
      (Instr.bind 2 [1, 2, 3]).wf s.cfg = true ∧ s.buffer = encode s.cfg (.bind 2 [1, 2, 3]) := ⟨holding .validate bindPacket, by decide⟩

theorem witness_SetAppliesAndPersists :
    ∃ s : State, s.cfg.freqScale = 10 ∧ s.Calm ∧ (s.callAt 2).ok = true := ⟨quiet, by decide⟩

theorem witness_SetSurfacesAFailedSave :
    ∃ s : State, s.cfg.freqScale = 10 ∧ s.Calm ∧ (s.callAt 2).ok = false := ⟨failing, by decide⟩

theorem witness_SetOperandsAreAssembledLittleEndian :
    ∃ s : State, s.st = .setExec ∧ s.resetDue = false ∧ s.hung = none ∧ 7 ≤ s.rxlen :=
  ⟨holding .setExec [0xEE, 0x05, 0x10, 1, 2, 3, 4], by decide⟩

theorem witness_SetTwiceIsSetOnce :
    ∃ s t u : State, s.Calm ∧ (s.callAt 2).ok = true ∧ (s.callAt 5).ok = true ∧
      exec (.set 5 100 8802 [0]) s = .next t ∧ exec (.set 5 100 8802 [0]) t = .next u :=
  ⟨quiet, _, _, by decide, by decide, by decide, rfl, rfl⟩

theorem witness_ResetAbandonsASetInFlight :
    ∃ s : State, s.resets = 22 :: [] ∧ s.wall < 22 ∧ ∀ n, (s.callAt 0).ticks = some n → 22 ≤ s.wall + n := by
  refine ⟨{ at_ .setExec with resets := [22] }, rfl, by decide, ?_⟩
  intro n h
  have h3 : n = 3 := by
    injection h with h
    exact h.symm
  subst h3
  decide

theorem witness_SavedPairIsLoadedAfterReset :
    ∃ s : State, s.cfg.freqScale = 10 ∧ s.Calm ∧ (s.callAt 2).ok = true ∧ (s.callAt 3).readable = true :=
  ⟨quiet, by decide⟩

theorem witness_TenthsAreRoundedToNearest : ∃ raw : Half, raw ≠ 0 := ⟨1, by decide⟩

theorem witness_AckFirstBitFollowsTheSettle :
    (∃ s : State, s.st = .txSettle ∧ s.cfg.txFraming = {} ∧ s.cfg.lineActiveHigh = true ∧
      s.now - s.tRef < s.cfg.tSettle ∧ s.cfg.tSettle ≤ s.now + 1 - s.tRef) ∧
    (∃ s : State, s.st = .txSettle ∧ s.cfg.txFraming = {} ∧ s.cfg.lineActiveHigh = true ∧
      s.cfg.tSettle ≤ s.now - s.tRef) :=
  ⟨⟨{ sending .txSettle with now := 10019 }, by decide⟩, ⟨{ sending .txSettle with now := 10020 }, by decide⟩⟩

theorem witness_AckBitsFollowEachOther :
    (∃ s : State, s.st = .txBit ∧ s.cfg.txFraming = {} ∧ s.cfg.lineActiveHigh = true ∧ s.txidx < 4 ∧ s.txbit < 8 ∧
      s.now - s.tRef < s.cfg.tBit) ∧
    (∃ s : State, s.st = .txBit ∧ s.cfg.txFraming = {} ∧ s.cfg.lineActiveHigh = true ∧ s.txidx < 4 ∧
      s.cfg.tBit ≤ s.now - s.tRef ∧ s.txbit < 7) ∧
    (∃ s : State, s.st = .txBit ∧ s.cfg.txFraming = {} ∧ s.cfg.lineActiveHigh = true ∧ s.txidx < 4 ∧
      s.cfg.tBit ≤ s.now - s.tRef ∧ s.txbit = 7) :=
  ⟨⟨{ sending .txBit with now := 77, txidx := 3, txbit := 7 }, by decide⟩,
    ⟨{ sending .txBit with now := 78, txbit := 6 }, by decide⟩, ⟨{ sending .txBit with now := 78, txbit := 7 }, by decide⟩⟩

theorem witness_AckBytesFollowEachOther :
    (∃ s : State, s.st = .txGap ∧ s.cfg.txFraming = {} ∧ s.cfg.lineActiveHigh = true ∧ s.now - s.tRef < s.cfg.tGap) ∧
    (∃ s : State, s.st = .txGap ∧ s.cfg.txFraming = {} ∧ s.cfg.lineActiveHigh = true ∧ s.cfg.tGap ≤ s.now - s.tRef ∧
      s.txidx + 1 = s.txlen) ∧
    (∃ s : State, s.st = .txGap ∧ s.cfg.txFraming = {} ∧ s.cfg.lineActiveHigh = true ∧ s.cfg.tGap ≤ s.now - s.tRef ∧
      s.txidx + 1 ≠ s.txlen ∧ s.txidx + 1 < 4) :=
  ⟨⟨{ sending .txGap with now := 119 }, by decide⟩, ⟨{ sending .txGap with now := 120, txidx := 3 }, by decide⟩,
    ⟨{ sending .txGap with now := 120, txidx := 2 }, by decide⟩⟩

theorem witness_AckBeginsWhereNothingIsSent : ∃ s : State, s.st.transmitting = false := ⟨quiet, by decide⟩

theorem witness_AckTakes12256Ticks :
    ∃ s : State, s.st = .txSettle ∧ s.tRef = s.now ∧ s.resets = [] ∧ s.txlen = 4 ∧ s.cfg.txFraming = {} ∧
      s.cfg.lineActiveHigh = true ∧ s.cfg = {} := ⟨sending .txSettle, by decide⟩

theorem witness_AckBitScheduleIsTheWaveform :
    ∃ s : State, s.st = .txSettle ∧ s.tRef = s.now ∧ s.resets = [] ∧ s.dir = .tx ∧ s.txlen = 4 ∧
      s.cfg.txFraming = {} ∧ s.cfg.lineActiveHigh = true ∧ 57 < s.cfg.tBit := ⟨sending .txSettle, by decide⟩

theorem witness_BindHoldsTheLineUntilIdle :
    ∃ s : State, s.st = .dispatch ∧ s.resets = [] ∧ s.cfg.txFraming = {} ∧ s.cfg.lineActiveHigh = true ∧ s.cfg = {} ∧
      decodePacket s.cfg s.buffer = .ok (.bind 2 [1, 2, 3]) :=
  ⟨holding .dispatch bindPacket, rfl, rfl, rfl, rfl, rfl, rfl⟩

theorem witness_InstructionsLeaveTheRestAlone :
    ∃ s : State, s.resets = [] ∧ (∃ t, exec (.set 5 100 8802 [0]) s = .next t) ∧ (∃ t, exec (.bind 2 [1, 2, 3]) s = .next t) ∧
      (∃ t, exec .bindAck s = .next t) := ⟨quiet, rfl, ⟨_, rfl⟩, ⟨_, rfl⟩, ⟨_, rfl⟩⟩

theorem witness_IdleEntersReceive : ∃ s : State, s.st = .idle ∧ s.resetDue = false := ⟨at_ .idle, by decide⟩

theorem witness_ReceiveSettleLastsExactly : ∃ s : State, s.st = .rxSettle ∧ s.resets = [] ∧ s.tRef = s.now :=
  ⟨at_ .rxSettle, by decide⟩

theorem witness_StartNeedsAFallingEdgeInTheWindow :
    (∃ s : State, s.st = .rxWaitStart ∧ s.resetDue = false ∧ s.cfg.startDetect = .edge ∧ s.cfg.poll = 1 ∧
      s.cfg.tRxto ≤ s.now - s.tWin) ∧
    (∃ s : State, s.st = .rxWaitStart ∧ s.resetDue = false ∧ s.cfg.startDetect = .edge ∧ s.cfg.poll = 1 ∧
      s.now - s.tWin < s.cfg.tRxto ∧ s.prev = true ∧ s.level = false) ∧
    (∃ s : State, s.st = .rxWaitStart ∧ s.resetDue = false ∧ s.cfg.startDetect = .edge ∧ s.cfg.poll = 1 ∧
      s.now - s.tWin < s.cfg.tRxto ∧ ¬(s.prev = true ∧ s.level = false)) :=
  ⟨⟨{ at_ .rxWaitStart with now := 100020 }, by decide⟩, ⟨{ at_ .rxWaitStart with now := 100, prev := true }, by decide⟩,
    ⟨{ at_ .rxWaitStart with now := 99, prev := true }, by decide⟩⟩

theorem witness_RiseAndFallAreAwaited :
    (∃ s : State, s.resetDue = false ∧ s.cfg.poll = 1 ∧ s.st = .rxWaitRise ∧ s.level = true) ∧
    (∃ s : State, s.resetDue = false ∧ s.cfg.poll = 1 ∧ s.st = .rxWaitRise ∧ s.level = false) ∧
    (∃ s : State, s.resetDue = false ∧ s.cfg.poll = 1 ∧ s.st = .rxWaitFall ∧ s.level = true) ∧
    (∃ s : State, s.resetDue = false ∧ s.cfg.poll = 1 ∧ s.st = .rxWaitFall ∧ s.level = false) :=
  ⟨⟨at_ .rxWaitRise, by decide⟩, ⟨{ at_ .rxWaitRise with now := 100 }, by decide⟩, ⟨at_ .rxWaitFall, by decide⟩,
    ⟨{ at_ .rxWaitFall with now := 100 }, by decide⟩⟩

theorem witness_BitIsTheLevel58TicksAfterTheRise :
    ∃ s : State, s.st = .rxWaitRise ∧ s.resets = [] ∧ s.cfg = { bitOrder := .lsbFirst } ∧ s.bitcnt < 8 ∧
      s.level = true := ⟨{ at_ .rxWaitRise with bitcnt := 7 }, by decide⟩

theorem witness_ByteIsAppendedAndMayTerminate :
    (∃ s : State, s.st = .rxByteDone ∧ s.resetDue = false ∧ Memory.wf s.rxbuf = true ∧ s.rxlen < s.cfg.rxbufMax) ∧
    (∃ s : State, s.st = .rxByteDone ∧ s.resetDue = false ∧ Memory.wf s.rxbuf = true ∧ s.rxlen = s.cfg.rxbufMax) :=
  ⟨⟨{ at_ .rxByteDone with rxlen := 255 }, by decide⟩, ⟨{ at_ .rxByteDone with rxlen := 256 }, by decide⟩⟩

/-- The block at `IDLE` on a line that stays high for longer than a receive takes. -/
def silent : State := { at_ .idle with line := [⟨true, 200000⟩] }

theorem silent_levelOn (t : Nat) (h : t < 200000) : silent.levelOn t = true := by
  have h' : silent.base + t < 200000 := by
    have : silent.base = 0 := rfl
    omega
  have hl : silent.line = [⟨true, 200000⟩] := rfl
  simp [State.levelOn, hl, h']

theorem witness_SilentLineTimesOut :
    ∃ s : State, s.st = .idle ∧ s.resets = [] ∧ s.cfg.poll = 1 ∧ s.cfg.startDetect = .edge ∧ 0 < s.cfg.tRxto ∧ s.cfg = {} ∧
      ∀ t, s.now + s.cfg.tSettle ≤ t → t < s.now + s.cfg.tSettle + s.cfg.tRxto → s.levelOn t = true :=
  ⟨silent, rfl, rfl, rfl, rfl, by decide, rfl, fun t _ h => silent_levelOn t (Nat.lt_trans h (by decide))⟩

theorem witness_StuckLineHangs :
    (∃ (s : State) (n : Nat), s.resets = [] ∧ s.cfg.poll = 1 ∧ s.st = .rxWaitRise ∧ 0 < n ∧
      ∀ t, s.now ≤ t → t < s.now + n → s.levelOn t = false) ∧
    (∃ (s : State) (n : Nat), s.resets = [] ∧ s.cfg.poll = 1 ∧ s.st = .rxWaitFall ∧ 0 < n ∧
      ∀ t, s.now ≤ t → t < s.now + n → s.levelOn t = true) := by
  refine ⟨⟨{ at_ .rxWaitRise with now := 100 }, 1, rfl, rfl, rfl, by decide, ?_⟩,
    ⟨{ at_ .rxWaitFall with now := 99 }, 1, rfl, rfl, rfl, by decide, ?_⟩⟩
  · intro t h h'
    obtain rfl : t = 100 := by
      simp only at h h'
      omega
    decide
  · intro t h h'
    obtain rfl : t = 99 := by
      simp only at h h'
      omega
    decide

/-- The waveform of a byte with rises at ticks 1, 61, 121, … and falls at 60, 120, …. -/
def pulses : State :=
  { quiet with
    st := .rxWaitRise
    line := ⟨false, 1⟩ :: (List.replicate 8 [(⟨true, 59⟩ : Run), ⟨false, 1⟩]).flatten }

theorem witness_ReceivedByteIsTheLevelsAfterTheRises :
    ∃ (s : State) (r f : Nat → Nat), s.st = .rxWaitRise ∧ s.bitcnt = 0 ∧ s.resets = [] ∧ s.cfg = {} ∧ s.now ≤ r 0 ∧
      (∀ t, s.now ≤ t → t < r 0 → s.levelOn t = false) ∧
      (∀ k, k < 7 → f k + 1 ≤ r (k + 1) ∧ ∀ t, f k + 1 ≤ t → t < r (k + 1) → s.levelOn t = false) ∧
      (∀ k, k < 8 → s.levelOn (r k) = true) ∧
      (∀ k, k < 8 → r k + 59 ≤ f k ∧ s.levelOn (f k) = false ∧ ∀ t, r k + 59 ≤ t → t < f k → s.levelOn t = true) := by
  have hr : ∀ k, k < 8 → pulses.levelOn (60 * k + 1) = true := by decide
  have hf : ∀ k, k < 8 → pulses.levelOn (60 * k + 60) = false := by decide
  refine ⟨pulses, fun k => 60 * k + 1, fun k => 60 * k + 60, rfl, rfl, rfl, rfl, by decide, ?_, ?_, hr, ?_⟩
  · intro t _ h
    simp only at h
    obtain rfl : t = 0 := by omega
    decide
  · intro k hk
    simp only
    exact ⟨by omega, fun t h h' => by omega⟩
  · intro k hk
    simp only
    exact ⟨by omega, hf k hk, fun t h h' => by omega⟩

theorem witness_ValidatorRejectsShortOrForeignBuffers :
    (∃ s : State, s.st = .validate ∧ s.Calm ∧ s.hung = none ∧ 0 < s.rxlen ∧ s.rxlen < s.cfg.minPktLen) ∧
    (∃ s : State, s.st = .validate ∧ s.Calm ∧ s.hung = none ∧ 0 < s.rxlen ∧ s.cfg.minPktLen ≤ s.rxlen ∧
      memRead s.rxbuf 0 ≠ s.cfg.devAddr) ∧
    (∃ s : State, s.st = .validate ∧ s.Calm ∧ s.hung = none ∧ 0 < s.rxlen ∧ s.cfg.minPktLen ≤ s.rxlen ∧
      memRead s.rxbuf 0 = s.cfg.devAddr) :=
  ⟨⟨holding .validate [0xEE, 0x02, 0x20, 0, 0], by decide⟩, ⟨holding .validate [0xC8, 0x02, 0x20, 0, 0, 0], by decide⟩,
    ⟨holding .validate bindPacket, by decide⟩⟩

theorem witness_DispatcherHasFourArms :
    (∃ s : State, s.st = .dispatch ∧ s.resetDue = false ∧ s.cfg = {} ∧ 6 ≤ s.rxlen ∧ memRead s.rxbuf 2 = 0x10 ∧
      8 ≤ s.rxlen) ∧
    (∃ s : State, s.st = .dispatch ∧ s.resetDue = false ∧ s.cfg = {} ∧ 6 ≤ s.rxlen ∧ memRead s.rxbuf 2 = 0x10 ∧
      s.rxlen < 8) ∧
    (∃ s : State, s.st = .dispatch ∧ s.resetDue = false ∧ s.cfg = {} ∧ 6 ≤ s.rxlen ∧ memRead s.rxbuf 2 = 0x20) ∧
    (∃ s : State, s.st = .dispatch ∧ s.resetDue = false ∧ s.cfg = {} ∧ 6 ≤ s.rxlen ∧ memRead s.rxbuf 2 ≠ 0x10 ∧
      memRead s.rxbuf 2 ≠ 0x20) :=
  ⟨⟨holding .dispatch setPacket, by decide⟩, ⟨holding .dispatch [0xEE, 0x05, 0x10, 1, 2, 3, 4], by decide⟩,
    ⟨holding .dispatch bindPacket, by decide⟩, ⟨holding .dispatch [0xEE, 0x05, 0x11, 1, 2, 3], by decide⟩⟩

theorem witness_EmptyBufferSkipsTheValidator :
    (∃ s : State, s.st = .rxDone ∧ s.resetDue = false ∧ s.rxlen = 0) ∧
      (∃ s : State, s.st = .rxDone ∧ s.resetDue = false ∧ s.rxlen ≠ 0) :=
  ⟨⟨at_ .rxDone, by decide⟩, ⟨holding .rxDone [0], by decide⟩⟩

theorem witness_SleepLastsExactly : ∃ s : State, s.st = .sleep ∧ s.resets = [] ∧ s.tRef = s.now := ⟨at_ .sleep, by decide⟩

/-- The hypotheses are those of `SilentLineTimesOut`. -/
theorem witness_IdleCycleTakes210000Ticks :
    ∃ s : State, s.st = .idle ∧ s.resets = [] ∧ s.cfg.poll = 1 ∧ s.cfg.startDetect = .edge ∧ 0 < s.cfg.tRxto ∧ s.cfg = {} ∧
      ∀ t, s.now + s.cfg.tSettle ≤ t → t < s.now + s.cfg.tSettle + s.cfg.tRxto → s.levelOn t = true :=
  witness_SilentLineTimesOut

theorem witness_PacketIsAViewOfTheBuffer :
    ∃ s : State, 3 ≤ s.rxlen ∧ s.st = .dispatch := ⟨holding .dispatch [0xEE, 0x02, 0x20], by decide⟩

theorem witness_BootLoadsThePairOrBothDefaults :
    (∃ s : State, s.st = .bootLoad ∧ s.Calm ∧ s.hung = none ∧ (s.callAt 0).readable = true ∧
        s.store = some (0x7FC00000, 0)) ∧
      (∃ s : State, s.st = .bootLoad ∧ s.Calm ∧ s.hung = none ∧ ((s.callAt 0).readable = false ∨ s.store = none)) :=
  ⟨⟨{ quiet with store := some (0x7FC00000, 0) }, by decide⟩, ⟨quiet, by decide⟩⟩

theorem witness_BootAppliesFiveOperations : ∃ s : State, s.st = .bootApply ∧ s.Calm ∧ s.hung = none :=
  ⟨at_ .bootApply, by decide⟩

theorem witness_BootReportsTheSettingsOnce : ∃ s : State, s.st = .bootReport ∧ s.Calm ∧ s.hung = none :=
  ⟨at_ .bootReport, by decide⟩

theorem witness_BootOnAnEmptyStoreReportsTheDefaults :
    ∃ s : State, s.st = .bootLoad ∧ s.cfg = {} ∧ s.Calm ∧ s.hung = none ∧ s.store = none := ⟨quiet, by decide⟩

theorem witness_ResetComesFirstAndKeepsTheStore : ∃ s : State, s.resetDue = true ∧ s.st = .rxWaitRise :=
  ⟨{ at_ .rxWaitRise with resets := [20] }, by decide⟩

/-- A state with the invariant, in the middle of the acknowledgement, that takes a step. -/
theorem witness_StepKeepsTheInvariant : ∃ s t : State, s.Inv ∧ step s = .next t := ⟨sending .txBit, _, by decide, rfl⟩

/-- The block is not stuck before the step, and is after it. -/
theorem witness_OnlyAnUnansweredTransactionStops :
    ∃ s t : State, s.Inv ∧ step s = .next t ∧ s.hung = none ∧ t.hung ≠ none := ⟨stuckSave, _, by decide, rfl, rfl, by decide⟩

theorem witness_StepsFollowTheTransitionGraph :
    ∃ s t : State, s.cfg.wf = true ∧ s.resets = [] ∧ step s = .next t := ⟨holding .dispatch setPacket, _, by decide, rfl, rfl⟩

theorem witness_LoopDispatchesOnlyNonEmptyBuffers :
    (∃ s t : State, s.resets = [] ∧ step s = .next t ∧ s.st.loop = some .idle ∧ t.st.loop = some .dispatching) ∧
      (∃ s t : State, s.resets = [] ∧ step s = .next t ∧ s.st.loop = some .dispatching ∧ t.st.loop = some .idle) :=
  ⟨⟨holding .rxDone [0], _, rfl, rfl, rfl, rfl⟩, ⟨holding .setExec setPacket, _, rfl, rfl, rfl, rfl⟩⟩

theorem witness_PersistErrIsStickyAndUnread :
    ∃ s t : State, s.resets = [] ∧ s.st = .setExec ∧ s.hung = none ∧ (s.callAt 2).ticks = some 5 ∧ (s.callAt 2).ok = false ∧
      step s = .next t := ⟨failingSave, _, rfl, rfl, rfl, rfl, rfl, rfl⟩

theorem witness_OnlyLoadAndSetWriteTheSettings :
    (∃ s t : State, s.resets = [] ∧ step s = .next t ∧ s.st ≠ .bootLoad ∧ s.st ≠ .setExec) ∧
      (∃ s t : State, s.resets = [] ∧ step s = .next t ∧ t.store ≠ s.store) :=
  ⟨⟨holding .dispatch bindPacket, _, rfl, rfl, by decide, by decide⟩, ⟨failingSave, _, rfl, rfl, by decide⟩⟩

theorem witness_DirectionChangesOnlyAtTheHeads :
    (∃ s t : State, s.resets = [] ∧ step s = .next t ∧ s.st = .dispatch ∧ t.st = .txSettle) ∧
      (∃ s : State, s.Inv ∧ s.samples = true) :=
  ⟨⟨holding .dispatch bindPacket, _, rfl, rfl, rfl, rfl⟩, ⟨at_ .rxWaitFall, by decide⟩⟩

theorem witness_LatchChangesOnlyWhereABitBegins :
    ∃ s t : State, s.resets = [] ∧ s.cfg.txFraming.gap = none ∧ step s = .next t ∧ t.txd ≠ s.txd :=
  ⟨{ sending .txBit with now := 78, txd := false }, _, rfl, rfl, rfl, by decide⟩

theorem witness_ParametersStayAndHistoryGrows : ∃ s t : State, step s = .next t ∧ s.resets = [] := ⟨quiet, _, rfl, rfl⟩

theorem witness_DeafTicksDoNotReadTheLine : ∃ s : State, s.samples = false := ⟨at_ .rxSettle, by decide⟩

theorem witness_UnreadBytesDoNotMatter :
    ∃ (s : State) (m : List Host.Cell), m ≠ s.rxbuf ∧ ∀ a, a = 0 ∨ (2 ≤ a ∧ a ≤ 6) → memRead m a = memRead s.rxbuf a := by
  refine ⟨quiet, [(1, 7), (7, 9)], by decide, ?_⟩
  intro a h
  have h1 : ¬1 = a := by omega
  have h7 : ¬7 = a := by omega
  simp [memRead, h1, h7, quiet, State.reset]

theorem witness_PinsDuringATickFollowItsInstantStates :
    (∃ s : State, s.resetDue = false ∧ s.st = .idle ∧ 0 < s.cfg.tSettle ∧ s.dir = .tx) ∧
    (∃ s : State, s.resetDue = false ∧ s.st = .dispatch ∧ decodePacket s.cfg s.buffer = .ok (.bind 2 [1, 2, 3]) ∧
      0 < s.cfg.tSettle) ∧
    (∃ s : State, s.resetDue = false ∧ s.Inv ∧ s.samples = true) ∧
    (∃ s : State, s.resetDue = false ∧ s.st = .bootLoad ∧ s.resets = [] ∧ s.hung = none ∧ (s.callAt 0).ticks = some 3 ∧
      2 < 3) :=
  ⟨⟨{ at_ .idle with dir := .tx }, by decide⟩, ⟨holding .dispatch bindPacket, rfl, rfl, rfl, by decide⟩,
    ⟨at_ .rxWaitFall, by decide⟩, ⟨quiet, by decide⟩⟩

/-- Each clause's tick at the end of its range is within it. -/
theorem witness_AcknowledgementOnThePins :
    ∃ s : State, s.st = .txSettle ∧ s.tRef = s.now ∧ s.resets = [] ∧ s.dir = .tx ∧ s.txlen = 4 ∧
      s.cfg.txFraming = {} ∧ s.cfg.lineActiveHigh = true ∧ 9999 < s.cfg.tSettle ∧ 57 < s.cfg.tBit ∧ 99 < s.cfg.tGap ∧
      99999 < s.cfg.tSleep := ⟨sending .txSettle, by decide⟩

/-- `TXBIT` is 8 in the gap. -/
theorem witness_InvariantBoundsTheCounters : ∃ s : State, s.Inv ∧ s.cfg.txFraming = {} ∧ s.st = .txGap ∧ s.txbit = 8 :=
  ⟨{ sending .txGap with txbit := 8 }, by decide⟩

/-- The tick `d` at the end of its range, after a save that fails and after one that succeeds; a save that never completes; and a
block that is stuck. -/
theorem witness_TransactionsTickByTick :
    (∃ s : State, s.st = .setExec ∧ s.resets = [] ∧ s.hung = none ∧ 0 < s.cfg.tSleep ∧
      decodePacket s.cfg s.buffer = .ok (.set 5 100 8802 [0]) ∧ (s.callAt 0).ticks = some 3 ∧ (s.callAt 1).ticks = some 4 ∧
      (s.callAt 2).ticks = some 5 ∧ (s.callAt 3).ticks = some 6 ∧ 18 ≤ 3 + 4 + 5 + (if (s.callAt 2).ok then 0 else 6)) ∧
    (∃ s : State, s.st = .setExec ∧ s.resets = [] ∧ s.hung = none ∧ 0 < s.cfg.tSleep ∧
      decodePacket s.cfg s.buffer = .ok (.set 5 100 8802 [0]) ∧ (s.callAt 0).ticks = some 3 ∧ (s.callAt 1).ticks = some 4 ∧
      (s.callAt 2).ticks = some 5 ∧ (s.callAt 3).ticks = some 6 ∧ (s.callAt 2).ok = true ∧ 12 ≤ 3 + 4 + 5) ∧
    (∃ s : State, s.resets = [] ∧ s.cfg.freqScale = 10 ∧ (s.callAt 0).ticks = some 3 ∧ (s.callAt 1).ticks = some 4 ∧
      (s.callAt 2).ticks = none) ∧
    (∃ s : State, s.st.transacts = true ∧ s.hung = some .load ∧ s.resets = []) :=
  ⟨⟨failingSave, rfl, rfl, rfl, by decide, rfl, rfl, rfl, rfl, rfl, by decide⟩,
    ⟨holding .setExec setPacket, rfl, rfl, rfl, by decide, rfl, rfl, rfl, rfl, rfl, rfl, by decide⟩,
    ⟨stuckSave, rfl, rfl, rfl, rfl, rfl⟩, ⟨{ quiet with hung := some .load }, rfl, rfl, rfl⟩⟩

end Sys2Proof.Tests
end

section
/-! PROOFS. What one evaluation can lead to, once and for all states (spec 46 R237, 10 R22): `Eval`, and for each rule the
lemma that it leads nowhere else. The statements about every step are case analyses of `Eval`. -/

namespace Sys2Proof.Machine

/-! ### Completed transactions and signals -/

/-- `u` is `s` after some completed transactions and signals, none of them a save: time has passed, the answers used up
are gone from the front of those to come, and the events are on the trace. -/
def State.Passes (s u : State) : Prop :=
  ∃ (n : Nat) (cs : List Call) (k : Nat) (es : List (Nat × Event)),
    cs <:+ s.calls ∧ u = { s with now := s.now + n, calls := cs, callNo := k, trace := s.trace ++ es }

theorem State.Passes.refl (s : State) : s.Passes s := ⟨0, s.calls, s.callNo, [], List.suffix_rfl, by simp⟩

theorem State.Passes.trans {s u v : State} (h : s.Passes u) (h' : u.Passes v) : s.Passes v := by
  obtain ⟨n, cs, k, es, hcs, rfl⟩ := h
  obtain ⟨n', cs', k', es', hcs', rfl⟩ := h'
  exact ⟨n + n', cs', k', es ++ es', hcs'.trans hcs, by simp [Nat.add_assoc]⟩

/-- Only a save changes the store while it is in flight. -/
theorem storeIssued_of_not_save {ev : Event} (h : ∀ f p, ev ≠ .save f p) (c : Call) (old : Option (Word × Half)) :
    storeIssued ev c old = old := by
  cases ev with
  | save f p => exact absurd rfl (h f p)
  | radio | load | diag | signal | reset => rfl

theorem State.Passes.issue {ev : Event} (h : ∀ f p, ev ≠ .save f p) (s : State) : s.Passes (s.issue ev) :=
  ⟨0, s.calls.drop 1, s.callNo + 1, [(s.now, ev)], List.drop_suffix 1 s.calls,
    by simp [State.issue, storeIssued_of_not_save h]⟩

theorem State.Passes.elapse (s : State) (n : Nat) : s.Passes (s.elapse n) :=
  ⟨n, s.calls, s.callNo, [], List.suffix_rfl, by simp [State.elapse]⟩

theorem State.Passes.signal (s : State) (live : Bool) (c : Condition) : s.Passes (s.signal live c) := by
  cases live
  · exact .refl s
  · exact ⟨0, s.calls, s.callNo, [(s.now, .signal c)], List.suffix_rfl, rfl⟩

theorem State.Passes.calls_subset {s u : State} (h : s.Passes u) : u.calls ⊆ s.calls := by
  obtain ⟨n, cs, k, es, hcs, rfl⟩ := h
  exact hcs.subset

/-- The part of the past that no rule and no reset rewrites (R40, R73): the parameters, and the trace so far. -/
def State.Extends (s u : State) : Prop := u.cfg = s.cfg ∧ ∃ es, u.trace = s.trace ++ es

theorem State.Extends.refl (s : State) : s.Extends s := ⟨rfl, [], by simp⟩

theorem State.Extends.trans {s u v : State} (h : s.Extends u) (h' : u.Extends v) : s.Extends v := by
  obtain ⟨hc, es, ht⟩ := h
  obtain ⟨hc', es', ht'⟩ := h'
  exact ⟨hc'.trans hc, es ++ es', by rw [ht', ht, List.append_assoc]⟩

theorem State.Extends.issue (s : State) (ev : Event) : s.Extends (s.issue ev) := ⟨rfl, [(s.now, ev)], rfl⟩

theorem State.Passes.extends {s u : State} (h : s.Passes u) : s.Extends u := by
  obtain ⟨n, cs, k, es, _, rfl⟩ := h
  exact ⟨rfl, es, rfl⟩

/-- Whatever reads neither the clock, nor the coming answers, nor the trace is as before. -/
theorem State.Passes.keeps {α : Type} {s u : State} (h : s.Passes u) (f : State → α)
    (hf : ∀ n cs k es, f { s with now := n, calls := cs, callNo := k, trace := es } = f s) : f u = f s := by
  obtain ⟨n, cs, k, es, _, rfl⟩ := h
  exact hf _ _ _ _

theorem State.Passes.st {s u : State} (h : s.Passes u) : u.st = s.st :=
  h.keeps State.st fun _ _ _ _ => rfl

theorem State.Passes.resets {s u : State} (h : s.Passes u) : u.resets = s.resets :=
  h.keeps State.resets fun _ _ _ _ => rfl

theorem State.Passes.base {s u : State} (h : s.Passes u) : u.base = s.base :=
  h.keeps State.base fun _ _ _ _ => rfl

theorem State.Passes.dir {s u : State} (h : s.Passes u) : u.dir = s.dir :=
  h.keeps State.dir fun _ _ _ _ => rfl

theorem State.Passes.txd {s u : State} (h : s.Passes u) : u.txd = s.txd :=
  h.keeps State.txd fun _ _ _ _ => rfl

theorem State.Passes.freq {s u : State} (h : s.Passes u) : u.freq = s.freq :=
  h.keeps State.freq fun _ _ _ _ => rfl

theorem State.Passes.power {s u : State} (h : s.Passes u) : u.power = s.power :=
  h.keeps State.power fun _ _ _ _ => rfl

theorem State.Passes.store {s u : State} (h : s.Passes u) : u.store = s.store :=
  h.keeps State.store fun _ _ _ _ => rfl

theorem State.Passes.persistErr {s u : State} (h : s.Passes u) : u.persistErr = s.persistErr :=
  h.keeps State.persistErr fun _ _ _ _ => rfl

theorem State.Passes.now_le {s u : State} (h : s.Passes u) : s.now ≤ u.now := by
  obtain ⟨n, cs, k, es, _, rfl⟩ := h
  exact Nat.le_add_right _ _

/-- What a `SET` has written beside the transactions of `u`: the store, and the flag of a failed save (R181). -/
def State.noted (u : State) (st : Option (Word × Half)) (b : Bool) : State := { u with store := st, persistErr := b }

/-- A rule that is a transaction other than a save and then `k`: it goes on, is abandoned to a reset, or is stuck. -/
theorem transact_next {ev : Event} (hev : ∀ f p, ev ≠ .save f p) {s t : State} {k : Call → State → Out}
    (h : transact true ev s k = .next t) :
    (∃ u n, (s.callAt 0).ticks = some n ∧ s.Passes u ∧ (∀ j, u.callAt j = s.callAt (j + 1)) ∧
        k (s.callAt 0) u = .next t) ∨
      (∃ u, s.resets ≠ [] ∧ s.Extends u ∧ t = u.takeReset) ∨
      (∃ u, (s.callAt 0).ticks = none ∧ s.Passes u ∧ t = u.hang ev) := by
  rcases transact_cases s ev k with ⟨n, hn, hk⟩ | ⟨hr, hk⟩ | ⟨hn, hr, hk⟩
  · exact .inl ⟨_, n, hn, (State.Passes.issue hev s).trans (.elapse _ n), fun j => by simp, hk ▸ h⟩
  · rw [hk] at h
    injection h with h
    exact .inr (.inl ⟨_, hr, .issue s ev, h.symm⟩)
  · rw [hk] at h
    injection h with h
    exact .inr (.inr ⟨_, hn, .issue hev s, h.symm⟩)

/-- The same for a save, which may also have changed the store, to the pair of the registers whole. -/
theorem saveCall_next {s t : State} {k : Bool → State → Out} (h : saveCall s k = .next t) :
    (∃ u n st, (s.callAt 0).ticks = some n ∧ s.Passes u ∧ (∀ j, u.callAt j = s.callAt (j + 1)) ∧
        (st = s.store ∨ st = some (s.freq, s.power)) ∧ k (s.callAt 0).ok (u.noted st s.persistErr) = .next t) ∨
      (∃ u, s.resets ≠ [] ∧ s.Extends u ∧ t = u.takeReset) ∨
      (∃ u st ev, (s.callAt 0).ticks = none ∧ s.Passes u ∧ (st = s.store ∨ st = some (s.freq, s.power)) ∧
        t = (u.noted st s.persistErr).hang ev) := by
  have hpass : s.Passes { s.issue (.save s.freq s.power) with store := s.store } :=
    ⟨0, s.calls.drop 1, s.callNo + 1, [(s.now, .save s.freq s.power)], List.drop_suffix 1 s.calls, rfl⟩
  have hissued : ∀ c, storeIssued (.save s.freq s.power) c s.store = s.store ∨
      storeIssued (.save s.freq s.power) c s.store = some (s.freq, s.power) := by
    intro c
    show (if c.landed then _ else _) = _ ∨ (if c.landed then _ else _) = _
    split
    · exact .inr rfl
    · exact .inl rfl
  unfold saveCall at h
  rcases transact_cases s (.save s.freq s.power) _ with ⟨n, hn, hk⟩ | ⟨hr, hk⟩ | ⟨hn, hr, hk⟩
  · refine .inl ⟨_, n, _, hn, hpass.trans (.elapse _ n), fun j => s.issue_callAt (.save s.freq s.power) j, ?_, hk ▸ h⟩
    cases (s.callAt 0).ok
    · exact hissued _
    · exact .inr rfl
  · rw [hk] at h
    injection h with h
    exact .inr (.inl ⟨_, hr, .issue s _, h.symm⟩)
  · rw [hk] at h
    injection h with h
    exact .inr (.inr ⟨_, _, _, hn, hpass, hissued (s.callAt 0), h.symm⟩)

/-! ### The evaluation -/

/-- Whether the `SET` about to run gets to its save and the save fails: both radio operations and the save complete
(R181). -/
def State.saveFails (s : State) : Bool :=
  (s.callAt 0).ticks.isSome && (s.callAt 1).ticks.isSome && (s.callAt 2).ticks.isSome && !(s.callAt 2).ok

/-- Everything one evaluation from `s` can lead to: one constructor for each way a rule can end, with what the rule
tested. -/
inductive Eval (s : State) : State → Prop
  /-- a reset, due already or asserted within a transaction of the rule (70 R280) -/
  | reset (u : State) (hr : s.resets ≠ []) (hu : s.Extends u) : Eval s u.takeReset
  /-- a tick passes: a wait, or the block is stuck in a transaction -/
  | wait (hst : s.st ≠ .idle) (hh : s.st.transacts = true → s.hung ≠ none) : Eval s s.tick
  /-- the block gets stuck in a transaction other than a `SET`'s -/
  | hang (u : State) (ev : Event) (hst : s.st.transacts = true) (hset : s.st ≠ .setExec)
      (hc : ∃ c ∈ s.calls, c.ticks = none) (hu : s.Passes u) : Eval s (u.hang ev)
  /-- `BOOT_LOAD` -/
  | load (u : State) (f : Word) (p : Half) (hst : s.st = .bootLoad) (hh : s.hung = none) (hu : s.Passes u) :
      Eval s ((u.putSettings f p).goto .bootApply)
  /-- `BOOT_APPLY` -/
  | apply (u : State) (hst : s.st = .bootApply) (hh : s.hung = none) (hu : s.Passes u) : Eval s (u.goto .bootReport)
  /-- `BOOT_REPORT` -/
  | report (u : State) (hst : s.st = .bootReport) (hh : s.hung = none) (hu : s.Passes u) : Eval s (u.goto .idle)
  /-- `IDLE` -/
  | receive (hst : s.st = .idle) : Eval s s.enterReceive
  /-- `RX_SETTLE` is over -/
  | openWindow (hst : s.st = .rxSettle) : Eval s { s with tWin := s.now, prev := false, st := .rxWaitStart }
  /-- `RX_WAIT_START`, the window is over -/
  | timeout (hst : s.st = .rxWaitStart) : Eval s ((s.signal true .transportTimeout).goto .rxDone)
  /-- `RX_WAIT_START`, a byte opens -/
  | start (hst : s.st = .rxWaitStart) :
      Eval s { s.sampleTick with prev := false, shift := 0, bitcnt := 0, st := .rxWaitRise }
  /-- a sample that is not what the state waits for -/
  | sample (v : Bool) (hst : s.st = .rxWaitStart ∨ s.st = .rxWaitRise ∨ s.st = .rxWaitFall) :
      Eval s { s.sampleTick with prev := v }
  /-- `RX_WAIT_RISE`, the rise -/
  | rise (hst : s.st = .rxWaitRise) : Eval s { s.sampleTick with prev := true, tRef := s.now, st := .rxSampleDelay }
  /-- `RX_SAMPLE_DELAY`, the bit -/
  | bit (x : Byte) (hst : s.st = .rxSampleDelay) (hb : s.bitcnt < 8) :
      Eval s { s.sampleTick with prev := s.level, shift := x, bitcnt := s.bitcnt + 1, st := .rxWaitFall }
  /-- `RX_WAIT_FALL`, the fall after a bit that is not the last -/
  | fall (hst : s.st = .rxWaitFall) (hb : s.bitcnt ≠ 8) : Eval s { s.sampleTick with prev := false, st := .rxWaitRise }
  /-- `RX_WAIT_FALL`, the fall after the last bit -/
  | lastFall (hst : s.st = .rxWaitFall) (hb : s.bitcnt = 8) :
      Eval s { s.sampleTick with prev := false, st := .rxByteDone }
  /-- `RX_BYTE_DONE`, the buffer is full -/
  | full (hst : s.st = .rxByteDone) : Eval s (s.goto .rxDone)
  /-- `RX_BYTE_DONE`, the byte is appended -/
  | append (q : Seq) (hst : s.st = .rxByteDone) (hq : q = .rxDone ∨ q = .rxWaitStart) (hl : s.rxlen < s.cfg.rxbufMax) :
      Eval s ((s.append s.shift).goto q)
  /-- `RX_DONE`, nothing was received -/
  | skip (hst : s.st = .rxDone) : Eval s s.enterSleep
  /-- `RX_DONE`, the buffer is offered to the Validator -/
  | offer (hst : s.st = .rxDone) (hl : 0 < s.rxlen) : Eval s (s.goto .validate)
  /-- `VALIDATE`, the buffer is accepted -/
  | accept (hst : s.st = .validate) (hh : s.hung = none) (hv : validate s.cfg s.buffer = none) : Eval s (s.goto .dispatch)
  /-- `VALIDATE`, the buffer is rejected -/
  | reject (u : State) (hst : s.st = .validate) (hh : s.hung = none) (hu : s.Passes u) : Eval s u.enterSleep
  /-- `DISPATCH`, a `SET` that is long enough -/
  | select (hst : s.st = .dispatch) (h2 : s.buffer[2]? = some s.cfg.cmdSet)
      (hl : s.cfg.setMinPayload ≤ s.buffer.length - 3) : Eval s (s.goto .setExec)
  /-- `DISPATCH`, a `BIND` -/
  | bind (hst : s.st = .dispatch) : Eval s s.loadAck.enterTransmit
  /-- `DISPATCH`, the buffer is ignored -/
  | ignore (c : Condition) (hst : s.st = .dispatch) : Eval s (s.signal true c).enterSleep
  /-- `SET_EXEC` is done -/
  | setDone (u : State) (f : Word) (p : Half) (st : Option (Word × Half)) (hst : s.st = .setExec) (hh : s.hung = none)
      (hu : (s.putSettings f p).Passes u) (hs : st = s.store ∨ st = some (f, p)) :
      Eval s (u.noted st (s.persistErr || s.saveFails)).enterSleep
  /-- `SET_EXEC` gets stuck in one of its transactions -/
  | setHang (u : State) (f : Word) (p : Half) (st : Option (Word × Half)) (ev : Event) (hst : s.st = .setExec)
      (hh : s.hung = none) (hc : ∃ c ∈ s.calls, c.ticks = none) (hu : (s.putSettings f p).Passes u)
      (hs : st = s.store ∨ st = some (f, p)) :
      Eval s ((u.noted st (s.persistErr || s.saveFails)).hang ev)
  /-- `TX_SETTLE` is over: the first bit -/
  | firstBit (v : Bool) (hst : s.st = .txSettle) :
      Eval s { s with txidx := 0, txbit := 0, txd := v, tRef := s.now, st := .txBit }
  /-- `TX_BIT`, the next bit of the byte -/
  | nextBit (v : Bool) (hst : s.st = .txBit) (hb : s.txbit + 1 ≠ frameLen s.cfg) :
      Eval s { s with txbit := s.txbit + 1, txd := v, tRef := s.now }
  /-- `TX_BIT`, the byte is over -/
  | gap (hst : s.st = .txBit) (hb : s.txbit + 1 = frameLen s.cfg) :
      Eval s { s with txbit := s.txbit + 1, tRef := s.now, txd := s.gapLevel, st := .txGap }
  /-- `TX_GAP`, the next byte -/
  | nextByte (v : Bool) (hst : s.st = .txGap) (hi : s.txidx + 1 ≠ s.txlen) :
      Eval s { s with txidx := s.txidx + 1, txbit := 0, txd := v, tRef := s.now, st := .txBit }
  /-- `TX_GAP`, the packet is over -/
  | ackDone (hst : s.st = .txGap) : Eval s ({ s with txidx := s.txidx + 1, txbit := 0 } : State).enterSleep
  /-- `SLEEP` is over -/
  | wake (hst : s.st = .sleep) : Eval s (s.goto .idle)

/-! ### Rule by rule -/

/-- A rule that may be stuck: it is, and a tick passes, or it runs. -/
theorem unlessHung_next {rule : State → Out} {s t : State} (hst : s.st ≠ .idle) (h : unlessHung rule s = .next t)
    (hrun : s.hung = none → rule s = .next t → Eval s t) : Eval s t := by
  by_cases hh : s.hung = none
  · exact hrun hh (unlessHung_free hh rule ▸ h)
  · rw [unlessHung_stuck hh rule] at h
    injection h with h
    exact h ▸ .wait hst fun _ => hh

/-- One transaction, not a save, in the middle of a rule: only what the rule does after it is left to show. -/
theorem transact_eval {ev : Event} (hev : ∀ f p, ev ≠ .save f p) {s u t : State} {k : Call → State → Out}
    (hst : s.st.transacts = true) (hset : s.st ≠ .setExec) (hu : s.Passes u) (h : transact true ev u k = .next t)
    (hrun : ∀ v, s.Passes v → k (u.callAt 0) v = .next t → Eval s t) : Eval s t := by
  rcases transact_next hev h with ⟨v, n, _, hv, _, hk⟩ | ⟨v, hr, hv, rfl⟩ | ⟨v, hn, hv, rfl⟩
  · exact hrun v (hu.trans hv) hk
  · exact .reset v (hu.resets ▸ hr) (hu.extends.trans hv)
  · obtain ⟨c, hc, hcn⟩ := State.callAt_ticks_none hn
    exact .hang v ev hst hset ⟨c, hu.calls_subset hc, hcn⟩ (hu.trans hv)

theorem radioCall_eval {op : RadioOp} {arg : Word} {s u t : State} {k : State → Out} (hst : s.st.transacts = true)
    (hset : s.st ≠ .setExec) (hu : s.Passes u) (h : radioCall op arg u k = .next t)
    (hrun : ∀ v, s.Passes v → k v = .next t → Eval s t) : Eval s t :=
  transact_eval (by simp) hst hset hu h hrun

theorem diagCall_eval {d : Diag} {s u t : State} {k : State → Out} (hst : s.st.transacts = true) (hset : s.st ≠ .setExec)
    (hu : s.Passes u) (h : diagCall true d u k = .next t) (hrun : ∀ v, s.Passes v → k v = .next t → Eval s t) : Eval s t :=
  transact_eval (by simp) hst hset hu h hrun

theorem bootLoad_eval {s t : State} (hst : s.st = .bootLoad) (h : unlessHung bootLoad s = .next t) : Eval s t := by
  refine unlessHung_next (by simp [hst]) h fun hh h => ?_
  unfold bootLoad loadCall at h
  refine transact_eval (by simp) (by simp [hst, Seq.transacts]) (by simp [hst]) (.refl s) h fun u hu h => ?_
  injection h with h
  exact h ▸ .load u _ _ hst hh hu

theorem bootApply_eval {s t : State} (hst : s.st = .bootApply) (h : unlessHung bootApply s = .next t) : Eval s t := by
  have hT : s.st.transacts = true := by simp [hst, Seq.transacts]
  have hS : s.st ≠ .setExec := by simp [hst]
  refine unlessHung_next (by simp [hst]) h fun hh h => ?_
  unfold bootApply at h
  refine radioCall_eval hT hS (.refl s) h fun s1 h1 h => ?_
  refine radioCall_eval hT hS h1 h fun s2 h2 h => ?_
  refine radioCall_eval hT hS h2 h fun s3 h3 h => ?_
  refine radioCall_eval hT hS h3 h fun s4 h4 h => ?_
  refine radioCall_eval hT hS h4 h fun s5 h5 h => ?_
  injection h with h
  exact h ▸ .apply s5 hst hh h5

theorem bootReport_eval {s t : State} (hst : s.st = .bootReport) (h : unlessHung bootReport s = .next t) : Eval s t := by
  refine unlessHung_next (by simp [hst]) h fun hh h => ?_
  unfold bootReport at h
  refine diagCall_eval (by simp [hst, Seq.transacts]) (by simp [hst]) (.refl s) h fun u hu h => ?_
  injection h with h
  exact h ▸ .report u hst hh hu

theorem rxSettle_eval {s t : State} (hst : s.st = .rxSettle) (h : rxSettle s = .next t) : Eval s t := by
  injection h with h
  subst h
  split
  · exact .wait (by simp [hst]) (by simp [hst, Seq.transacts])
  · exact .openWindow hst

theorem rxWaitStart_eval {s t : State} (hst : s.st = .rxWaitStart) (h : rxWaitStart s = .next t) : Eval s t := by
  injection h with h
  subst h
  split
  · exact .timeout hst
  · split
    · exact .start hst
    · exact .sample _ (.inl hst)

theorem rxWaitRise_eval {s t : State} (hst : s.st = .rxWaitRise) (h : rxWaitRise s = .next t) : Eval s t := by
  injection h with h
  subst h
  split
  · exact .rise hst
  · exact .sample _ (.inr (.inl hst))

theorem rxSampleDelay_eval {s t : State} (hst : s.st = .rxSampleDelay) (h : rxSampleDelay s = .next t) : Eval s t := by
  unfold rxSampleDelay at h
  split at h
  · injection h with h
    exact h ▸ .wait (by simp [hst]) (by simp [hst, Seq.transacts])
  · split at h
    · cases h
    · injection h with h
      exact h ▸ .bit _ hst (by omega)

theorem rxWaitFall_eval {s t : State} (hst : s.st = .rxWaitFall) (h : rxWaitFall s = .next t) : Eval s t := by
  injection h with h
  subst h
  split
  · exact .sample _ (.inr (.inr hst))
  · split
    · exact .lastFall hst ‹_›
    · exact .fall hst ‹_›

theorem rxByteDone_eval {s t : State} (hst : s.st = .rxByteDone) (h : rxByteDone s = .next t) : Eval s t := by
  unfold rxByteDone at h
  split at h
  · injection h with h
    exact h ▸ .full hst
  · split at h
    · cases h
    · injection h with h
      exact h ▸ .append _ hst (by split <;> simp) (by omega)

theorem rxDoneRule_eval {s t : State} (hst : s.st = .rxDone) (h : rxDoneRule s = .next t) : Eval s t := by
  injection h with h
  subst h
  split
  · exact .skip hst
  · exact .offer hst (by omega)

theorem sleepRule_eval {s t : State} (hst : s.st = .sleep) (h : sleepRule s = .next t) : Eval s t := by
  injection h with h
  subst h
  split
  · exact .wait (by simp [hst]) (by simp [hst, Seq.transacts])
  · exact .wake hst

theorem rejectMalformed_eval {s t : State} (hst : s.st = .validate) (hh : s.hung = none) (c : Cause)
    (h : rejectMalformed c s = .next t) : Eval s t := by
  unfold rejectMalformed at h
  refine diagCall_eval (by simp [hst, Seq.transacts]) (by simp [hst]) (.signal s true _) h fun u hu h => ?_
  injection h with h
  exact h ▸ .reject u hst hh hu

/-- Of the reasons to reject a buffer, the Validator has two that lead on, the Dispatcher the two others. -/
theorem validate_reject {c : Config} {buf : List Byte} {r : Reject} (h : validate c buf = some r) :
    r = .tooShort ∨ r = .wrongAddress ∨ r = .noSuchByte := by
  unfold validate at h
  split at h
  · simp_all
  · split at h
    · simp_all
    · split at h <;> simp_all

theorem validateRule_eval {s t : State} (hst : s.st = .validate) (h : unlessHung validateRule s = .next t) : Eval s t := by
  refine unlessHung_next (by simp [hst]) h fun hh h => ?_
  unfold validateRule at h
  split at h
  · rcases validate_reject ‹_› with rfl | rfl | rfl
    · exact rejectMalformed_eval hst hh _ h
    · exact rejectMalformed_eval hst hh _ h
    · cases h
  · injection h with h
    exact h ▸ .accept hst hh ‹_›

/-- What `decodeSet` answers is a `SET`. -/
theorem decodeSet_some {buf : List Byte} {i : Instr} (h : decodeSet buf = some i) :
    ∃ len p f tail, i = .set len p f tail := by
  unfold decodeSet at h
  split at h
  · injection h with h
    exact ⟨_, _, _, _, h.symm⟩
  · cases h

/-- What `decodeBind` answers is a `BIND`. -/
theorem decodeBind_some {buf : List Byte} {i : Instr} (h : decodeBind buf = some i) : ∃ len tail, i = .bind len tail := by
  unfold decodeBind at h
  split at h
  · injection h with h
    exact ⟨_, _, h.symm⟩
  · cases h

/-- What the Dispatcher's decode can answer: a `SET` that is one and is long enough, a `BIND`, or one of three rejections. -/
theorem decodeCommand_cases (c : Config) (buf : List Byte) :
    (∃ len p f tail, decodeCommand c buf = .ok (.set len p f tail) ∧ buf[2]? = some c.cmdSet ∧
        c.setMinPayload ≤ buf.length - 3) ∨
      (∃ len tail, decodeCommand c buf = .ok (.bind len tail)) ∨
      decodeCommand c buf = .error .truncatedSet ∨ (∃ t, decodeCommand c buf = .error (.unrecognised t)) ∨
      decodeCommand c buf = .error .noSuchByte := by
  rcases h2 : buf[2]? with _ | t
  · simp [decodeCommand, h2]
  by_cases hs : t = c.cmdSet
  · by_cases hl : c.setMinPayload ≤ buf.length - 3
    · rcases hd : decodeSet buf with _ | i
      · simp [decodeCommand, h2, hs, hl, hd]
      · obtain ⟨len, p, f, tail, rfl⟩ := decodeSet_some hd
        exact .inl ⟨len, p, f, tail, by simp [decodeCommand, h2, hs, hl, hd], by rw [hs], hl⟩
    · simp [decodeCommand, h2, hs, hl]
  · by_cases hb : t = c.cmdBind
    · rcases hd : decodeBind buf with _ | i
      · simp [decodeCommand, h2, hs, ← hb, hd]
      · obtain ⟨len, tail, rfl⟩ := decodeBind_some hd
        exact .inr (.inl ⟨len, tail, by simp [decodeCommand, h2, hs, ← hb, hd]⟩)
    · simp [decodeCommand, h2, hs, hb]

theorem dispatchRule_eval {s t : State} (hst : s.st = .dispatch) (h : dispatchRule s = .next t) : Eval s t := by
  unfold dispatchRule at h
  rcases decodeCommand_cases s.cfg s.buffer with ⟨_, _, _, _, hd, h2, hl⟩ | ⟨_, _, hd⟩ | hd | ⟨c, hd⟩ | hd
  · rw [hd] at h
    injection h with h
    exact h ▸ .select hst h2 hl
  · rw [hd] at h
    injection h with h
    exact h ▸ .bind hst
  · rw [hd] at h
    injection h with h
    exact h ▸ .ignore _ hst
  · rw [hd] at h
    injection h with h
    exact h ▸ .ignore _ hst
  · rw [hd] at h
    cases h

/-- Writing the store and the flag commutes with transactions. -/
theorem State.Passes.of_noted {u v : State} {st : Option (Word × Half)} {b : Bool} (h : (u.noted st b).Passes v) :
    ∃ w, u.Passes w ∧ v = w.noted st b := by
  obtain ⟨n, cs, k, es, hcs, rfl⟩ := h
  exact ⟨_, ⟨n, cs, k, es, hcs, rfl⟩, rfl⟩

/-- A `SET` stuck in its save or before does not see the save fail. -/
theorem saveFails_of_stuck {s : State} {i : Nat} (hi : i < 3) (hn : (s.callAt i).ticks = none) : s.saveFails = false := by
  obtain rfl | rfl | rfl : i = 0 ∨ i = 1 ∨ i = 2 := by omega
  all_goals simp [State.saveFails, hn]

/-- One that gets past its save does when the save answers so. -/
theorem saveFails_of_saved {s : State} {n0 n1 n2 : Nat} (h0 : (s.callAt 0).ticks = some n0)
    (h1 : (s.callAt 1).ticks = some n1) (h2 : (s.callAt 2).ticks = some n2) : s.saveFails = !(s.callAt 2).ok := by
  simp [State.saveFails, h0, h1, h2]

/-- A radio operation of a `SET`, its `i`-th transaction: only what the rule does after it is left to show. -/
theorem setRadio_eval {op : RadioOp} {arg : Word} {s u t : State} {f : Word} {p : Half} {k : State → Out} {i : Nat}
    (hi : i < 3) (hst : s.st = .setExec) (hh : s.hung = none) (hu : (s.putSettings f p).Passes u)
    (hcalls : ∀ j, u.callAt j = s.callAt (j + i)) (h : radioCall op arg u k = .next t)
    (hrun : ∀ v n, (s.callAt i).ticks = some n → (s.putSettings f p).Passes v →
      (∀ j, v.callAt j = s.callAt (j + (i + 1))) → k v = .next t → Eval s t) : Eval s t := by
  have h0 : u.callAt 0 = s.callAt i := by rw [hcalls 0, Nat.zero_add]
  rcases transact_next (by simp) h with ⟨v, n, hn, hv, hvc, hk⟩ | ⟨v, hr, hv, rfl⟩ | ⟨v, hn, hv, rfl⟩
  · exact hrun v n (h0 ▸ hn) (hu.trans hv) (fun j => by rw [hvc, hcalls]; congr 1; omega) hk
  · exact .reset v (hu.resets ▸ hr) (hu.extends.trans hv)
  · have hs : v.store = s.store := (hu.trans hv).store
    have hb : v.persistErr = (s.persistErr || s.saveFails) := by
      rw [saveFails_of_stuck hi (h0 ▸ hn), Bool.or_false]
      exact (hu.trans hv).persistErr
    have := Eval.setHang v f p _ (.radio op arg) hst hh (State.callAt_ticks_none (h0 ▸ hn)) (hu.trans hv) (.inl hs)
    rwa [← hb] at this

/-- The end of a `SET`: the answer of its save is noted, surfaced if it is a failure, and the sleep begins (R181, R256). -/
theorem setNoted_eval {s u t : State} {f : Word} {p : Half} {st : Option (Word × Half)} {ok : Bool}
    (hst : s.st = .setExec) (hh : s.hung = none) (hu : (s.putSettings f p).Passes u)
    (hcalls : ∀ j, u.callAt j = s.callAt (j + 3)) (hs : st = s.store ∨ st = some (f, p)) (hf : s.saveFails = !ok)
    (h : diagCall (!ok) .persistFail ((u.noted st s.persistErr).noteSave ok) (fun v => .next v.enterSleep) = .next t) :
    Eval s t := by
  have hnote : (s.putSettings f p).Passes (u.signal (!ok) .persistWriteFailure) := hu.trans (.signal u _ _)
  have hnoted : (u.noted st s.persistErr).noteSave ok =
      (u.signal (!ok) .persistWriteFailure).noted st (s.persistErr || s.saveFails) := by rw [hf]; rfl
  rw [hnoted] at h
  cases ok with
  | true =>
    rw [Bool.not_true, diagCall_not_live] at h
    injection h with h
    exact h ▸ .setDone _ f p st hst hh hnote hs
  | false =>
    rcases transact_next (by simp) h with ⟨v, n, _, hv, _, hk⟩ | ⟨v, hr, hv, rfl⟩ | ⟨v, hn, hv, rfl⟩
    · obtain ⟨w, hw, rfl⟩ := hv.of_noted
      injection hk with hk
      exact hk ▸ .setDone w f p st hst hh (hnote.trans hw) hs
    · refine .reset v (hu.resets ▸ hr) (.trans hnote.extends hv)
    · obtain ⟨w, hw, rfl⟩ := hv.of_noted
      have hn : (s.callAt 3).ticks = none := hcalls 0 ▸ hn
      exact .setHang w f p st _ hst hh (State.callAt_ticks_none hn) (hnote.trans hw) hs

/-- The save of a `SET`, its third transaction, and what follows it. -/
theorem setSave_eval {s u t : State} {f : Word} {p : Half} {n0 n1 : Nat} (hst : s.st = .setExec) (hh : s.hung = none)
    (hn0 : (s.callAt 0).ticks = some n0) (hn1 : (s.callAt 1).ticks = some n1) (hu : (s.putSettings f p).Passes u)
    (hcalls : ∀ j, u.callAt j = s.callAt (j + 2))
    (h : (saveCall u fun ok v => diagCall (!ok) .persistFail (v.noteSave ok) fun w => .next w.enterSleep) = .next t) :
    Eval s t := by
  have h0 : u.callAt 0 = s.callAt 2 := hcalls 0
  have hpair : ∀ {st}, st = u.store ∨ st = some (u.freq, u.power) → st = s.store ∨ st = some (f, p) := by
    obtain ⟨n, cs, k, es, _, rfl⟩ := hu
    exact id
  have hb : u.persistErr = s.persistErr := hu.persistErr
  rcases saveCall_next h with ⟨v, n2, st, hn2, hv, hcv, hs, h⟩ | ⟨v, hr, hv, rfl⟩ | ⟨v, st, ev, hn2, hv, hs, rfl⟩
  · rw [hb, h0] at h
    exact setNoted_eval hst hh (hu.trans hv) (fun j => by rw [hcv, hcalls]) (hpair hs)
      (saveFails_of_saved hn0 hn1 (h0 ▸ hn2)) h
  · exact .reset v (hu.resets ▸ hr) (.trans hu.extends hv)
  · have hn : (s.callAt 2).ticks = none := h0 ▸ hn2
    have := Eval.setHang v f p st ev hst hh (State.callAt_ticks_none hn) (hu.trans hv) (hpair hs)
    rwa [saveFails_of_stuck (by omega) hn, Bool.or_false, ← hb] at this

theorem execSet_eval {s t : State} {len : Byte} {power freq10 : Half} {tail : List Byte} (hst : s.st = .setExec)
    (hh : s.hung = none) (h : execSet len power freq10 tail s = .next t) : Eval s t := by
  unfold execSet at h
  refine setRadio_eval (i := 0) (by omega) hst hh (.refl _) (fun j => by simp) h fun s1 n0 hn0 h1 hc1 h => ?_
  refine setRadio_eval (i := 1) (by omega) hst hh h1 hc1 h fun s2 n1 hn1 h2 hc2 h => ?_
  exact setSave_eval hst hh hn0 hn1 h2 hc2 h

theorem setExecRule_eval {s t : State} (hst : s.st = .setExec) (h : unlessHung setExecRule s = .next t) : Eval s t := by
  refine unlessHung_next (by simp [hst]) h fun hh h => ?_
  unfold setExecRule at h
  rcases hd : decodeSet s.buffer with _ | i
  · rw [hd] at h
    cases h
  · obtain ⟨len, p, f, tail, rfl⟩ := decodeSet_some hd
    rw [hd] at h
    exact execSet_eval (len := len) (tail := tail) hst hh h

/-- What `TXBUF` holds does not matter to the rule that runs: the transmitter's (R150). -/
theorem transmitRule_eq_transmit (s : State) : transmitRule s = transmit s := by
  unfold transmitRule decodeAck
  split_ifs <;> rfl

/-- `LOADBIT` in a rule that leads on: the selected level is driven from now on. -/
theorem loadBit_next {s t : State} {k : State → State} (h : loadBit s k = .next t) :
    ∃ v, t = k { s with txd := v, tRef := s.now } := by
  rcases loadBit_cases s k with ⟨v, _, hk⟩ | ⟨_, hk⟩
  · rw [hk] at h
    injection h with h
    exact ⟨v, h.symm⟩
  · rw [hk] at h
    cases h

theorem txSettle_eval {s t : State} (hst : s.st = .txSettle) (h : txSettle s = .next t) : Eval s t := by
  unfold txSettle at h
  split at h
  · injection h with h
    exact h ▸ .wait (by simp [hst]) (by simp [hst, Seq.transacts])
  · obtain ⟨v, rfl⟩ := loadBit_next h
    exact .firstBit v hst

theorem txBit_eval {s t : State} (hst : s.st = .txBit) (h : txBit s = .next t) : Eval s t := by
  unfold txBit at h
  split at h
  · injection h with h
    exact h ▸ .wait (by simp [hst]) (by simp [hst, Seq.transacts])
  · split at h
    · injection h with h
      exact h ▸ .gap hst ‹_›
    · obtain ⟨v, rfl⟩ := loadBit_next h
      exact .nextBit v hst ‹_›

theorem txGap_eval {s t : State} (hst : s.st = .txGap) (h : txGap s = .next t) : Eval s t := by
  unfold txGap at h
  split at h
  · injection h with h
    exact h ▸ .wait (by simp [hst]) (by simp [hst, Seq.transacts])
  · split at h
    · injection h with h
      exact h ▸ .ackDone hst
    · obtain ⟨v, rfl⟩ := loadBit_next h
      exact .nextByte v hst ‹_›

/-! ### The step -/

/-- With no reset due the rule of `ST` runs, and each leads where `Eval` says. -/
theorem runRule_eval {s t : State} (h : runRule s = .next t) : Eval s t := by
  unfold runRule at h
  simp only [transmitRule_eq_transmit, transmit] at h
  cases hst : s.st <;> simp only [hst] at h
  case bootLoad => exact bootLoad_eval hst h
  case bootApply => exact bootApply_eval hst h
  case bootReport => exact bootReport_eval hst h
  case idle =>
    injection h with h
    exact h ▸ .receive hst
  case rxSettle => exact rxSettle_eval hst h
  case rxWaitStart => exact rxWaitStart_eval hst h
  case rxWaitRise => exact rxWaitRise_eval hst h
  case rxSampleDelay => exact rxSampleDelay_eval hst h
  case rxWaitFall => exact rxWaitFall_eval hst h
  case rxByteDone => exact rxByteDone_eval hst h
  case rxDone => exact rxDoneRule_eval hst h
  case validate => exact validateRule_eval hst h
  case dispatch => exact dispatchRule_eval hst h
  case setExec => exact setExecRule_eval hst h
  case txSettle => exact txSettle_eval hst h
  case txBit => exact txBit_eval hst h
  case txGap => exact txGap_eval hst h
  case sleep => exact sleepRule_eval hst h

/-- Every step is one of the evaluations `Eval` lists. -/
theorem step_eval {s t : State} (h : step s = .next t) : Eval s t := by
  rcases step_next_cases h with ⟨hd, rfl⟩ | ⟨_, hrun⟩
  · refine .reset s ?_ (.refl s)
    rintro hr
    simp [resetDue_of_nil hr] at hd
  · exact runRule_eval hrun

end Sys2Proof.Machine
end

section
/-! PROOFS. The invariant (spec 10 R46), taken apart into the ranges, which every update keeps, and what the sequencer state
needs, which each evaluation establishes anew; and its obligations. -/

namespace Sys2Proof.Machine

/-! ### The two parts of the invariant -/

/-- The part of the invariant that does not look at `ST`: parameters, ranges, references in the past. -/
structure State.Ranges (s : State) : Prop where
  cfg_wf : s.cfg.wf = true
  rxbuf_wf : Memory.wf s.rxbuf = true
  rxbuf_lt : ∀ c ∈ s.rxbuf, c.1 < s.cfg.rxbufMax
  rxlen_le : s.rxlen ≤ s.cfg.rxbufMax
  bitcnt_le : s.bitcnt ≤ 8
  txlen_le : s.txlen ≤ 4
  txidx_le : s.txidx ≤ 4
  txbit_le : s.txbit ≤ frameLen s.cfg
  tWin_le : s.tWin ≤ s.now
  tRef_le : s.tRef ≤ s.now

/-- `RXBUF` holds what the Validator accepts (42 R171). -/
def State.Accepted (s : State) : Prop := s.cfg.minPktLen ≤ s.rxlen ∧ memRead s.rxbuf 0 = s.cfg.devAddr

/-- `RXBUF` holds a `SET` that is long enough to act (43 R180). -/
def State.LongSet (s : State) : Prop := 3 + s.cfg.setMinPayload ≤ s.rxlen ∧ memRead s.rxbuf 2 = s.cfg.cmdSet

/-- `TXBUF` holds the Bind Acknowledgement (R33). -/
def State.AckLoaded (s : State) : Prop := s.txBytes = s.cfg.ackBytes ∧ s.txlen = 4

/-- The part of the invariant that the sequencer state selects. -/
def State.Local (s : State) : Prop :=
  match s.st with
  | .bootLoad | .bootApply | .bootReport | .validate => s.dir = .rx
  | .idle | .sleep => s.hung = none
  | .rxSettle | .rxWaitStart | .rxWaitFall | .rxDone => s.dir = .rx ∧ s.hung = none
  | .rxWaitRise | .rxSampleDelay => s.dir = .rx ∧ s.hung = none ∧ s.bitcnt < 8
  | .rxByteDone => s.dir = .rx ∧ s.hung = none ∧ s.bitcnt = 8
  | .dispatch => s.dir = .rx ∧ s.hung = none ∧ s.Accepted
  | .setExec => s.dir = .rx ∧ s.Accepted ∧ s.LongSet
  | .txSettle => s.dir = .tx ∧ s.hung = none ∧ s.AckLoaded
  | .txBit => s.dir = .tx ∧ s.hung = none ∧ s.AckLoaded ∧ s.txidx < s.txlen ∧ s.txbit < frameLen s.cfg
  | .txGap => s.dir = .tx ∧ s.hung = none ∧ s.AckLoaded ∧ s.txidx < s.txlen

theorem inv_iff (s : State) : s.Inv ↔ s.Ranges ∧ s.Local := by
  constructor
  · rintro ⟨h1, h2, h3, h4, h5, h6, h7, h8, hrise, hfull, h9, h10, hdir, hacc, hset, hack, hidx, hbit, hhung⟩
    refine ⟨⟨h1, h2, h3, h4, h5, h6, h7, h8, h9, h10⟩, ?_⟩
    unfold State.Local
    split
    all_goals simp_all [Seq.between, Seq.transmitting, Seq.transacts, State.Accepted, State.LongSet, State.AckLoaded]
  · rintro ⟨⟨h1, h2, h3, h4, h5, h6, h7, h8, h9, h10⟩, hl⟩
    refine ⟨h1, h2, h3, h4, h5, h6, h7, h8, ?_⟩
    unfold State.Local at hl
    split at hl
    all_goals simp_all [Seq.between, Seq.transmitting, Seq.transacts, State.Accepted, State.LongSet, State.AckLoaded]
    all_goals omega

/-! ### The ranges under each update -/

/-- A reset needs no more than sensible parameters (the registers that R45 leaves unspecified hold 0, log entry 1). -/
theorem inv_takeReset {s : State} (h : s.cfg.wf = true) : s.takeReset.Inv := by
  refine (inv_iff _).2 ⟨⟨h, rfl, ?_, ?_, ?_, ?_, ?_, ?_, ?_, ?_⟩, rfl⟩ <;> simp

theorem State.Ranges.tick {s : State} (h : s.Ranges) : s.tick.Ranges :=
  { h with tWin_le := Nat.le_succ_of_le h.tWin_le, tRef_le := Nat.le_succ_of_le h.tRef_le }

theorem State.Ranges.sampleTick {s : State} (h : s.Ranges) : s.sampleTick.Ranges :=
  { h with tWin_le := Nat.le_add_right_of_le h.tWin_le, tRef_le := Nat.le_add_right_of_le h.tRef_le }

theorem State.Ranges.passes {s u : State} (h : s.Ranges) (hu : s.Passes u) : u.Ranges := by
  obtain ⟨n, cs, k, es, _, rfl⟩ := hu
  exact { h with tWin_le := Nat.le_add_right_of_le h.tWin_le, tRef_le := Nat.le_add_right_of_le h.tRef_le }

theorem State.Ranges.goto {s : State} (h : s.Ranges) (q : Seq) : (s.goto q).Ranges := { h with }

theorem State.Ranges.hang {s : State} (h : s.Ranges) (ev : Event) : (s.hang ev).Ranges :=
  { h with tWin_le := Nat.le_succ_of_le h.tWin_le, tRef_le := Nat.le_succ_of_le h.tRef_le }

theorem State.Ranges.putSettings {s : State} (h : s.Ranges) (f : Word) (p : Half) : (s.putSettings f p).Ranges := { h with }

theorem State.Ranges.noted {s : State} (h : s.Ranges) (st : Option (Word × Half)) (b : Bool) : (s.noted st b).Ranges :=
  { h with }

theorem State.Ranges.enterSleep {s : State} (h : s.Ranges) : s.enterSleep.Ranges := { h with tRef_le := le_rfl }

theorem State.Ranges.append {s : State} (h : s.Ranges) (hl : s.rxlen < s.cfg.rxbufMax) (v : Byte) : (s.append v).Ranges :=
  { h with
    rxbuf_wf := memWrite_wf _ _ _ h.rxbuf_wf
    rxbuf_lt := memWrite_bound _ _ _ _ hl h.rxbuf_lt
    rxlen_le := hl }

theorem State.Ranges.loadBit {s : State} (h : s.Ranges) {i b : Nat} (v : Bool) (q : Seq) (hi : i ≤ 4)
    (hb : b ≤ frameLen s.cfg) :
    ({ s with txidx := i, txbit := b, txd := v, tRef := s.now, st := q } : State).Ranges :=
  { h with txidx_le := hi, txbit_le := hb, tRef_le := le_rfl }

/-! ### What the tests of the rules establish -/

/-- A buffer that the Validator lets through is accepted (R171). -/
theorem accepted_of_validate {s : State} (hwf : s.cfg.wf = true) (hv : validate s.cfg s.buffer = none) : s.Accepted := by
  have hmin : 3 ≤ s.cfg.minPktLen := ((config_wf_iff _).1 hwf).2.1
  unfold validate at hv
  rw [State.buffer_length] at hv
  split at hv
  · cases hv
  · have hlen : s.cfg.minPktLen ≤ s.rxlen := by omega
    have h0 := s.buffer_getElem? 0 (by omega)
    split at hv
    · cases hv
    · rename_i a _ hbuf
      rw [hbuf] at h0
      split at hv
      · exact ⟨hlen, by simp_all⟩
      · cases hv

/-- A buffer that the Dispatcher sends to `SET_EXEC` holds a `SET` (R180). -/
theorem longSet_of_select {s : State} (h2 : s.buffer[2]? = some s.cfg.cmdSet)
    (hl : s.cfg.setMinPayload ≤ s.buffer.length - 3) : s.LongSet := by
  obtain ⟨hlt, -⟩ := List.getElem?_eq_some_iff.1 h2
  rw [State.buffer_length] at hl hlt
  rw [s.buffer_getElem? 2 hlt] at h2
  exact ⟨by omega, by simpa using h2⟩

/-- The acknowledgement that a `BIND` loads is the one the transmitter needs (R183). -/
theorem loadAck_ackLoaded (s : State) : s.loadAck.AckLoaded := ⟨rfl, rfl⟩

/-- With a bit inside the frame there is a first one: a frame has at least the eight bits of the byte. -/
theorem frameLen_pos (c : Config) : 0 < frameLen c := by
  unfold frameLen
  omega

/-! ### Every evaluation keeps the invariant -/

/-- A state that issues transactions needs nothing of `hung`, so it may be stuck. -/
theorem State.Local.hang {s : State} (h : s.Local) (hst : s.st.transacts = true) (ev : Event) : (s.hang ev).Local := by
  unfold State.Local at h ⊢
  rw [State.hang_st]
  cases hq : s.st <;> rw [hq] at hst h
  case bootLoad | bootApply | bootReport | validate | setExec => exact h
  all_goals cases hst

/-- R46: whatever one evaluation leads to from a state with the invariant has it. -/
theorem Eval.inv {s t : State} (h : Eval s t) (hi : s.Inv) : t.Inv := by
  obtain ⟨hr, hl⟩ := (inv_iff s).1 hi
  cases h with
  | reset u _ hu => exact inv_takeReset (hu.1 ▸ hr.cfg_wf)
  | wait => exact (inv_iff _).2 ⟨hr.tick, hl⟩
  | hang u ev hst _ _ hu =>
    refine (inv_iff _).2 ⟨(hr.passes hu).hang ev, ?_⟩
    obtain ⟨n, cs, k, es, _, rfl⟩ := hu
    exact hl.hang hst ev
  | load u f p hst _ hu =>
    refine (inv_iff _).2 ⟨((hr.passes hu).putSettings f p).goto _, ?_⟩
    obtain ⟨n, cs, k, es, _, rfl⟩ := hu
    simpa [State.Local, hst] using hl
  | apply u hst _ hu =>
    refine (inv_iff _).2 ⟨(hr.passes hu).goto _, ?_⟩
    obtain ⟨n, cs, k, es, _, rfl⟩ := hu
    simpa [State.Local, hst] using hl
  | report u hst hh hu =>
    refine (inv_iff _).2 ⟨(hr.passes hu).goto _, ?_⟩
    obtain ⟨n, cs, k, es, _, rfl⟩ := hu
    exact hh
  | receive hst =>
    refine (inv_iff _).2 ⟨{ hr with rxlen_le := Nat.zero_le _, tRef_le := le_rfl }, ?_⟩
    simpa [State.Local, hst] using hl
  | openWindow hst =>
    refine (inv_iff _).2 ⟨{ hr with tWin_le := le_rfl }, ?_⟩
    simpa [State.Local, hst] using hl
  | timeout hst =>
    refine (inv_iff _).2 ⟨(hr.passes (.signal s true _)).goto _, ?_⟩
    simpa [State.Local, hst] using hl
  | start hst =>
    refine (inv_iff _).2 ⟨{ hr.sampleTick with bitcnt_le := Nat.zero_le _ }, ?_⟩
    simpa [State.Local, hst] using hl
  | sample v hst => exact (inv_iff _).2 ⟨{ hr.sampleTick with }, hl⟩
  | rise hst =>
    refine (inv_iff _).2 ⟨{ hr.sampleTick with tRef_le := Nat.le_add_right _ _ }, ?_⟩
    simpa [State.Local, hst] using hl
  | bit x hst hb =>
    refine (inv_iff _).2 ⟨{ hr.sampleTick with bitcnt_le := hb }, ?_⟩
    simp only [State.Local, hst] at hl
    exact ⟨hl.1, hl.2.1⟩
  | fall hst hb =>
    refine (inv_iff _).2 ⟨{ hr.sampleTick with }, ?_⟩
    simp only [State.Local, hst] at hl
    exact ⟨hl.1, hl.2, lt_of_le_of_ne hr.bitcnt_le hb⟩
  | lastFall hst hb =>
    refine (inv_iff _).2 ⟨{ hr.sampleTick with }, ?_⟩
    simp only [State.Local, hst] at hl
    exact ⟨hl.1, hl.2, hb⟩
  | full hst =>
    refine (inv_iff _).2 ⟨hr.goto _, ?_⟩
    simp only [State.Local, hst] at hl
    exact ⟨hl.1, hl.2.1⟩
  | append q hst hq hlen =>
    refine (inv_iff _).2 ⟨(hr.append hlen _).goto q, ?_⟩
    simp only [State.Local, hst] at hl
    rcases hq with rfl | rfl
    · exact ⟨hl.1, hl.2.1⟩
    · exact ⟨hl.1, hl.2.1⟩
  | skip hst =>
    refine (inv_iff _).2 ⟨hr.enterSleep, ?_⟩
    simp only [State.Local, hst] at hl
    exact hl.2
  | offer hst _ =>
    refine (inv_iff _).2 ⟨hr.goto _, ?_⟩
    simp only [State.Local, hst] at hl
    exact hl.1
  | accept hst hh hv =>
    refine (inv_iff _).2 ⟨hr.goto _, ?_⟩
    simp only [State.Local, hst] at hl
    exact ⟨hl, hh, accepted_of_validate hr.cfg_wf hv⟩
  | reject u hst hh hu =>
    refine (inv_iff _).2 ⟨(hr.passes hu).enterSleep, ?_⟩
    obtain ⟨n, cs, k, es, _, rfl⟩ := hu
    exact hh
  | select hst h2 hlen =>
    refine (inv_iff _).2 ⟨hr.goto _, ?_⟩
    simp only [State.Local, hst] at hl
    exact ⟨hl.1, hl.2.2, longSet_of_select h2 hlen⟩
  | bind hst =>
    refine (inv_iff _).2 ⟨{ hr with txlen_le := le_rfl, tRef_le := le_rfl }, ?_⟩
    simp only [State.Local, hst] at hl
    exact ⟨rfl, hl.2.1, loadAck_ackLoaded s⟩
  | ignore c hst =>
    refine (inv_iff _).2 ⟨(hr.passes (.signal s true c)).enterSleep, ?_⟩
    simp only [State.Local, hst] at hl
    exact hl.2.1
  | setDone u f p st hst hh hu _ =>
    refine (inv_iff _).2 ⟨(((hr.putSettings f p).passes hu).noted st _).enterSleep, ?_⟩
    obtain ⟨n, cs, k, es, _, rfl⟩ := hu
    exact hh
  | setHang u f p st ev hst _ _ hu _ =>
    have hT : s.st.transacts = true := by rw [hst]; rfl
    refine (inv_iff _).2 ⟨(((hr.putSettings f p).passes hu).noted st _).hang ev, ?_⟩
    obtain ⟨n, cs, k, es, _, rfl⟩ := hu
    exact State.Local.hang (s := State.noted _ st (s.persistErr || s.saveFails)) hl hT ev
  | firstBit v hst =>
    refine (inv_iff _).2 ⟨hr.loadBit v .txBit (Nat.zero_le _) (Nat.zero_le _), ?_⟩
    simp only [State.Local, hst] at hl
    obtain ⟨hdir, hhung, hbytes, hlen⟩ := hl
    exact ⟨hdir, hhung, ⟨hbytes, hlen⟩, hlen ▸ Nat.zero_lt_succ 3, frameLen_pos _⟩
  | nextBit v hst hb =>
    simp only [State.Local, hst] at hl
    obtain ⟨hdir, hhung, hack, hidx, hbit⟩ := hl
    have hbit' : s.txbit + 1 < frameLen s.cfg := by omega
    refine (inv_iff _).2 ⟨hr.loadBit v s.st hr.txidx_le hbit'.le, ?_⟩
    simpa [State.Local, hst] using ⟨hdir, hhung, hack, hidx, hbit'⟩
  | gap hst hb =>
    refine (inv_iff _).2 ⟨{ hr with txbit_le := hb.le, tRef_le := le_rfl }, ?_⟩
    simp only [State.Local, hst] at hl
    obtain ⟨hdir, hhung, hack, hidx, _⟩ := hl
    exact ⟨hdir, hhung, hack, hidx⟩
  | nextByte v hst hne =>
    simp only [State.Local, hst] at hl
    obtain ⟨hdir, hhung, ⟨hbytes, hlen⟩, hidx⟩ := hl
    refine (inv_iff _).2 ⟨hr.loadBit v .txBit (by omega) (Nat.zero_le _), ?_⟩
    exact ⟨hdir, hhung, ⟨hbytes, hlen⟩, lt_of_le_of_ne hidx hne, frameLen_pos _⟩
  | ackDone hst =>
    simp only [State.Local, hst] at hl
    obtain ⟨_, hhung, ⟨_, hlen⟩, hidx⟩ := hl
    refine (inv_iff _).2 ⟨{ hr with txidx_le := by simp; omega, txbit_le := Nat.zero_le _, tRef_le := le_rfl }, ?_⟩
    exact hhung
  | wake hst =>
    refine (inv_iff _).2 ⟨hr.goto _, ?_⟩
    simpa [State.Local, hst] using hl

/-! ### Obligations -/

/-- Settles O45: a step is one of the evaluations `Eval` lists, and each of them keeps the invariant. A step that takes a
reset keeps the ranges of `T_WIN`, `T_REF`, `BITCNT`, `TXLEN`, `TXIDX` and `TXBIT` by the zeros of log entry 1. -/
theorem stepKeepsTheInvariant : Obligations.StepKeepsTheInvariant := fun _ _ hi h => (step_eval h).inv hi

/-- Settles O44: `State.reset` has the default parameters and an empty `RXBUF`, and its counters and references are the
zeros of log entry 1. -/
theorem invariantHoldsAtReset : Obligations.InvariantHoldsAtReset := by
  refine (inv_iff _).2 ⟨⟨by decide, reset_memory_wf, fun c hc => ?_, ?_, ?_, ?_, ?_, ?_, ?_, ?_⟩, rfl⟩
  · cases hc
  all_goals exact Nat.zero_le _

/-- With the framing of D8 a frame is the eight bits of the byte. -/
theorem frameLen_d8 {c : Config} (h : c.txFraming = {}) : frameLen c = 8 := by simp [frameLen, h]

/-- Settles O59: the ranges of the invariant, with a frame of eight bits. -/
theorem invariantBoundsTheCounters : Obligations.InvariantBoundsTheCounters := by
  intro s hi hd8
  obtain ⟨hr, hl⟩ := (inv_iff s).1 hi
  refine ⟨hr.bitcnt_le, frameLen_d8 hd8 ▸ hr.txbit_le, hr.rxlen_le, ?_⟩
  rintro (hst | hst) <;> simp only [State.Local, hst] at hl
  · exact hl.2.2.2.1
  · exact hl.2.2.2

/-- Settles O42: the values of `State.reset` are those R45 states. -/
theorem resetLeavesTheStatedValues : Obligations.ResetLeavesTheStatedValues :=
  ⟨rfl, rfl, rfl, rfl, rfl, rfl, rfl, rfl, rfl⟩

end Sys2Proof.Machine
end

section
/-! PROOFS. What every step does to the flag, the settings, the direction, the latch, the parameters and the trace (spec 10
R23 to R40): case analyses of `Eval`. -/

namespace Sys2Proof.Machine

/-- The parameters and the past stay, whatever happens (R40, R73). -/
theorem Eval.extends {s t : State} (h : Eval s t) : s.Extends t := by
  cases h with
  | reset u _ hu => exact .trans hu ⟨rfl, _, u.takeReset_trace⟩
  | hang u ev _ _ _ hu => exact hu.extends
  | load u f p _ _ hu | apply u _ _ hu | report u _ _ hu | reject u _ _ hu | setDone u f p st _ _ hu => exact hu.extends
  | timeout => exact (State.Passes.signal s true _).extends
  | ignore c _ => exact (State.Passes.signal s true c).extends
  | setHang u f p st ev _ _ _ hu _ => exact hu.extends
  | wait | receive | openWindow | start | sample | rise | bit | fall | lastFall | full | append | skip | offer | accept
  | select | bind | firstBit | nextBit | gap | nextByte | ackDone | wake => exact .refl s

/-- With no reset coming time does not go back, and the tick of the latest reset stays (R24). -/
theorem Eval.now_le {s t : State} (h : Eval s t) (hr : s.resets = []) : s.now ≤ t.now ∧ t.base = s.base := by
  cases h with
  | reset u hne _ => exact absurd hr hne
  | wait => exact ⟨Nat.le_succ _, rfl⟩
  | hang u ev _ _ _ hu => exact ⟨Nat.le_succ_of_le hu.now_le, hu.base⟩
  | load u f p _ _ hu | apply u _ _ hu | report u _ _ hu | reject u _ _ hu | setDone u f p st _ _ hu =>
    exact ⟨hu.now_le, hu.base⟩
  | setHang u f p st ev _ _ _ hu _ => exact ⟨Nat.le_succ_of_le hu.now_le, hu.base⟩
  | start | sample | rise | bit | fall | lastFall => exact ⟨Nat.le_add_right _ _, rfl⟩
  | receive | openWindow | timeout | full | append | skip | offer | accept | select | bind | ignore | firstBit | nextBit
  | gap | nextByte | ackDone | wake => exact ⟨le_rfl, rfl⟩

theorem Eval.wall_le {s t : State} (h : Eval s t) (hr : s.resets = []) : s.wall ≤ t.wall := by
  obtain ⟨hnow, hbase⟩ := h.now_le hr
  rw [State.wall, State.wall, hbase]
  exact Nat.add_le_add_left hnow _

/-- No evaluation asserts a reset. -/
theorem Eval.resets {s t : State} (h : Eval s t) (hr : s.resets = []) : t.resets = [] := by
  cases h with
  | reset u hne _ => exact absurd hr hne
  | hang u ev _ _ _ hu => exact hu.resets.trans hr
  | load u f p _ _ hu | apply u _ _ hu | report u _ _ hu | reject u _ _ hu | setDone u f p st _ _ hu =>
    exact hu.resets.trans hr
  | setHang u f p st ev _ _ _ hu => exact hu.resets.trans hr
  | wait | start | sample | rise | bit | fall | lastFall | receive | openWindow | timeout | full | append | skip | offer
  | accept | select | bind | ignore | firstBit | nextBit | gap | nextByte | ackDone | wake => exact hr

/-- Settles O53: a reset keeps the parameters and the past, and without one time goes on. -/
theorem parametersStayAndHistoryGrows : Obligations.ParametersStayAndHistoryGrows := by
  intro s t h
  obtain ⟨hc, ht⟩ := (step_eval h).extends
  exact ⟨hc, ht, (step_eval h).now_le⟩

/-- Only `SET_EXEC` writes the store, and it puts there the pair that it leaves in the registers, or nothing (R70, R185). -/
theorem Eval.store {s t : State} (h : Eval s t) (hr : s.resets = []) :
    t.store = s.store ∨ (s.st = .setExec ∧ t.store = some (t.freq, t.power)) := by
  cases h with
  | reset u hne _ => exact absurd hr hne
  | hang u ev _ _ _ hu => exact .inl hu.store
  | load u f p _ _ hu | apply u _ _ hu | report u _ _ hu | reject u _ _ hu => exact .inl hu.store
  | setDone u f p st hst _ hu hs => exact hs.imp id fun hs => ⟨hst, by simp [State.noted, hs, hu.freq, hu.power]⟩
  | setHang u f p st ev hst _ _ hu hs => exact hs.imp id fun hs => ⟨hst, by simp [State.noted, hs, hu.freq, hu.power]⟩
  | wait | start | sample | rise | bit | fall | lastFall | receive | openWindow | timeout | full | append | skip | offer
  | accept | select | bind | ignore | firstBit | nextBit | gap | nextByte | ackDone | wake => exact .inl rfl

/-- Only `BOOT_LOAD` and `SET_EXEC` write the Radio Settings (R37, R38, R185). -/
theorem Eval.settings {s t : State} (h : Eval s t) (hr : s.resets = []) (hload : s.st ≠ .bootLoad) (hset : s.st ≠ .setExec) :
    t.freq = s.freq ∧ t.power = s.power := by
  cases h with
  | reset u hne _ => exact absurd hr hne
  | hang u ev _ _ _ hu => exact ⟨hu.freq, hu.power⟩
  | load u f p hst _ _ => exact absurd hst hload
  | apply u _ _ hu | report u _ _ hu | reject u _ _ hu => exact ⟨hu.freq, hu.power⟩
  | setDone u f p st hst => exact absurd hst hset
  | setHang u f p st ev hst => exact absurd hst hset
  | wait | start | sample | rise | bit | fall | lastFall | receive | openWindow | timeout | full | append | skip | offer
  | accept | select | bind | ignore | firstBit | nextBit | gap | nextByte | ackDone | wake => exact ⟨rfl, rfl⟩

/-- Settles O50, from what an evaluation does to the settings and to the store. -/
theorem onlyLoadAndSetWriteTheSettings : Obligations.OnlyLoadAndSetWriteTheSettings := by
  intro s t hr h
  have hstore := (step_eval h).store hr
  exact ⟨(step_eval h).settings hr, fun hset => hstore.resolve_right fun hs => hset hs.1, hstore.imp id And.right⟩

/-- The loop (R23, R230, R233): it starts at `IDLE`, dispatches a buffer that is not empty, comes back into the sleep, and
else stays where it is. -/
theorem Eval.loop {s t : State} (h : Eval s t) (hr : s.resets = []) :
    t.st.loop = s.st.loop ∨ (s.st.loop = none ∧ t.st = .idle) ∨ (s.st = .rxDone ∧ t.st = .validate ∧ 0 < s.rxlen) ∨
      (s.st.loop = some .dispatching ∧ t.st = .sleep ∧ t.tRef = t.now) := by
  cases h with
  | reset u hne _ => exact absurd hr hne
  | hang u ev _ _ _ hu => exact .inl (congrArg Seq.loop hu.st)
  | setHang u f p st ev _ _ _ hu _ => exact .inl (congrArg Seq.loop hu.st)
  | report u hst _ hu => exact .inr (.inl ⟨by rw [hst]; rfl, rfl⟩)
  | offer hst hl => exact .inr (.inr (.inl ⟨hst, rfl, hl⟩))
  | reject u hst | ignore c hst | setDone u f p st hst | ackDone hst =>
    exact .inr (.inr (.inr ⟨by rw [hst]; rfl, rfl, rfl⟩))
  | append q hst hq _ => exact .inl (by rcases hq with rfl | rfl <;> rw [hst] <;> rfl)
  | wait | sample | nextBit => exact .inl rfl
  | load u f p hst | apply u hst => exact .inl (by rw [hst]; rfl)
  | receive hst | openWindow hst | timeout hst | start hst | rise hst | bit x hst | fall hst | lastFall hst | full hst
  | skip hst | accept hst | select hst | bind hst | firstBit v hst | gap hst | nextByte v hst | wake hst =>
    exact .inl (by rw [hst]; rfl)

/-- Settles O48, from the four ways the loop can go on. -/
theorem loopDispatchesOnlyNonEmptyBuffers : Obligations.LoopDispatchesOnlyNonEmptyBuffers := by
  intro s t hr h
  rcases (step_eval h).loop hr with hl | ⟨hs, ht⟩ | ⟨hs, ht, hlen⟩ | ⟨hs, ht, href⟩
  · simp_all
  · simp [hs]
  · refine ⟨fun _ _ => ⟨hs, ht, hlen⟩, fun hd => ?_, fun _ => by rw [ht]; exact Option.some_ne_none _⟩
    rw [hs] at hd
    cases hd
  · refine ⟨fun hi => ?_, fun _ _ => ⟨ht, href⟩, fun _ => by rw [ht]; exact Option.some_ne_none _⟩
    rw [hs] at hi
    cases hi

/-- A state that issues transactions is neither at the head of `RECEIVE` nor where `TRANSMIT` is entered. -/
theorem transacts_ne {q : Seq} (h : q.transacts = true) : q ≠ .idle ∧ q ≠ .dispatch := by
  constructor <;> rintro rfl <;> cases h

/-- `IDLE` makes `DIR` RX, a `BIND` makes it TX, and nothing else writes it (R25, R206). -/
theorem Eval.dir {s t : State} (h : Eval s t) (hr : s.resets = []) :
    t.dir = if s.st = .idle then Dir.rx else if s.st = .dispatch ∧ t.st = .txSettle then Dir.tx else s.dir := by
  have kept : s.st ≠ .idle → ¬(s.st = .dispatch ∧ t.st = .txSettle) → t.dir = s.dir →
      t.dir = if s.st = .idle then Dir.rx else if s.st = .dispatch ∧ t.st = .txSettle then Dir.tx else s.dir :=
    fun hidle htx hdir => by rw [if_neg hidle, if_neg htx, hdir]
  cases h with
  | reset u hne _ => exact absurd hr hne
  | receive hst => simp [hst]
  | bind hst => simp [hst]
  | wait hst => exact kept hst (fun h => absurd (h.1.symm.trans h.2) (by decide)) rfl
  | hang u ev hst _ _ hu => exact kept (transacts_ne hst).1 (fun h => (transacts_ne hst).2 h.1) hu.dir
  | load u f p hst _ hu | apply u hst _ hu | report u hst _ hu | reject u hst _ hu | setDone u f p st hst _ hu =>
    exact kept (by simp [hst]) (by simp [hst]) hu.dir
  | setHang u f p st ev hst _ _ hu => exact kept (by simp [hst]) (by simp [hst]) hu.dir
  | sample v hst => rcases hst with hst | hst | hst <;> exact kept (by simp [hst]) (by simp [hst]) rfl
  | append q hst _ _ => exact kept (by simp [hst]) (by simp [hst]) rfl
  | openWindow hst | timeout hst | start hst | rise hst | bit x hst | fall hst | lastFall hst | full hst | skip hst
  | offer hst | accept hst | select hst | ignore c hst | firstBit v hst | nextBit v hst | gap hst | nextByte v hst
  | ackDone hst | wake hst => exact kept (by simp [hst]) (by simp [hst]) rfl

/-- In a state with the invariant the line is sampled only while it is not driven. -/
theorem dir_rx_of_samples {s : State} (hi : s.Inv) (hsamples : s.samples = true) : s.dir = .rx := by
  obtain ⟨-, hl⟩ := (inv_iff s).1 hi
  cases hst : s.st <;> simp only [State.samples, hst] at hsamples <;> simp only [State.Local, hst] at hl
  case rxWaitStart | rxWaitRise | rxSampleDelay | rxWaitFall => exact hl.1
  all_goals cases hsamples

/-- Settles O51: the heads write `DIR`, and the invariant gives it in the states that sample. -/
theorem directionChangesOnlyAtTheHeads : Obligations.DirectionChangesOnlyAtTheHeads :=
  ⟨fun _ _ hr h => (step_eval h).dir hr, fun _ hi hsamples => by simp [State.pinOe, dir_rx_of_samples hi hsamples]⟩

/-- `TXD` is written where a bit begins, and at the start of a gap whose level is configured (R26, D8). -/
theorem Eval.txd {s t : State} (h : Eval s t) (hr : s.resets = []) :
    t.txd = s.txd ∨ (s.st = .txBit ∧ s.cfg.txFraming.gap ≠ none) ∨
      (s.st.transmitting = true ∧ t.st = .txBit ∧ t.tRef = s.now ∧ t.now = s.now) := by
  cases h with
  | reset u hne _ => exact absurd hr hne
  | hang u ev _ _ _ hu => exact .inl hu.txd
  | load u f p _ _ hu | apply u _ _ hu | report u _ _ hu | reject u _ _ hu | setDone u f p st _ _ hu => exact .inl hu.txd
  | setHang u f p st ev _ _ _ hu => exact .inl hu.txd
  | firstBit v hst | nextByte v hst => exact .inr (.inr ⟨by rw [hst]; rfl, rfl, rfl, rfl⟩)
  | nextBit v hst => exact .inr (.inr ⟨by rw [hst]; rfl, hst, rfl, rfl⟩)
  | gap hst =>
    by_cases hgap : s.cfg.txFraming.gap = none
    · exact .inl (by simp [State.gapLevel, hgap])
    · exact .inr (.inl ⟨hst, hgap⟩)
  | wait | start | sample | rise | bit | fall | lastFall | receive | openWindow | timeout | full | append | skip | offer
  | accept | select | bind | ignore | ackDone | wake => exact .inl rfl

/-- Settles O52: with no configured gap level only the beginning of a bit writes `TXD`. -/
theorem latchChangesOnlyWhereABitBegins : Obligations.LatchChangesOnlyWhereABitBegins := by
  intro s t hr hgap h hne
  rcases (step_eval h).txd hr with heq | ⟨_, hgap'⟩ | hbit
  · exact absurd heq hne
  · exact absurd hgap hgap'
  · exact hbit

/-! ### `PERSIST_ERR` -/

/-- Only a `SET` whose save fails writes `PERSIST_ERR` (R39). -/
theorem Eval.persistErr {s t : State} (h : Eval s t) (hr : s.resets = []) :
    t.persistErr = (s.persistErr || (decide (s.st = .setExec) && s.hung.isNone && s.saveFails)) := by
  have kept : s.st ≠ .setExec → t.persistErr = s.persistErr →
      t.persistErr = (s.persistErr || (decide (s.st = .setExec) && s.hung.isNone && s.saveFails)) :=
    fun hst heq => by simp [hst, heq]
  cases h with
  | reset u hne _ => exact absurd hr hne
  | setDone u f p st hst hh hu => simp [hst, hh, State.noted]
  | setHang u f p st ev hst hh hu => simp [hst, hh, State.noted]
  | wait hst hh =>
    by_cases hset : s.st = .setExec
    · obtain ⟨ev, hev⟩ := Option.ne_none_iff_exists'.1 (hh (by rw [hset]; rfl))
      simp [hev]
    · exact kept hset rfl
  | hang u ev _ hset _ hu => exact kept hset hu.persistErr
  | load u f p hst _ hu | apply u hst _ hu | report u hst _ hu | reject u hst _ hu =>
    exact kept (by simp [hst]) hu.persistErr
  | sample v hst => rcases hst with hst | hst | hst <;> exact kept (by simp [hst]) rfl
  | append q hst _ _ => exact kept (by simp [hst]) rfl
  | receive hst | openWindow hst | timeout hst | start hst | rise hst | bit x hst | fall hst | lastFall hst | full hst
  | skip hst | offer hst | accept hst | select hst | bind hst | ignore c hst | firstBit v hst | nextBit v hst | gap hst
  | nextByte v hst | ackDone hst | wake hst => exact kept (by simp [hst]) rfl

end Sys2Proof.Machine
end

section
/-! PROOFS. `PERSIST_ERR` is never read (spec 10 R39): two states that differ only in it take the same step, the flag
apart. -/

namespace Sys2Proof.Machine

/-- The state with the flag set to `b`. -/
def State.setErr (s : State) (b : Bool) : State := { s with persistErr := b }

/-- The state with the flag blotted out. -/
def State.hideErr (s : State) : State := { s with persistErr := false }

/-- The two outcomes are the same, the flag apart. -/
def Out.Agree (o o' : Out) : Prop := Out.mapNext State.hideErr o = Out.mapNext State.hideErr o'

/-- Two transactions that meet the same environment and whose three ends look the same under `f` look the same. -/
theorem transact_mapNext_congr {f : State → State} {live : Bool} {ev : Event} {s s' : State} {k k' : Call → State → Out}
    (hcall : s'.callAt 0 = s.callAt 0) (hresets : s'.resets = s.resets) (hwall : s'.wall = s.wall)
    (hreset : f (s'.issue ev).takeReset = f (s.issue ev).takeReset)
    (hhang : f ((s'.issue ev).hang ev) = f ((s.issue ev).hang ev))
    (hk : ∀ n, Out.mapNext f (k' (s.callAt 0) (if live then (s'.issue ev).elapse n else s')) =
      Out.mapNext f (k (s.callAt 0) (if live then (s.issue ev).elapse n else s))) :
    Out.mapNext f (transact live ev s' k') = Out.mapNext f (transact live ev s k) := by
  unfold transact
  rw [hcall, hresets, show s'.resetWithin = s.resetWithin by funext n; simp [State.resetWithin, hresets, hwall]]
  rcases (s.callAt 0).ticks with _ | n
  · cases live
    · exact hk 0
    · cases s.resets.isEmpty
      · exact congrArg Host.Outcome.next hreset
      · exact congrArg Host.Outcome.next hhang
  · dsimp only
    cases hw : s.resetWithin n && live
    · exact hk n
    · exact congrArg Host.Outcome.next hreset

theorem transact_agree {live : Bool} {ev : Event} {k k' : Call → State → Out}
    (hk : ∀ c u b, (k' c (State.setErr u b)).Agree (k c u)) (s : State) (b : Bool) :
    (transact live ev (s.setErr b) k').Agree (transact live ev s k) := by
  refine transact_mapNext_congr rfl rfl rfl rfl rfl fun n => ?_
  cases live
  · exact hk _ s b
  · exact hk _ ((s.issue ev).elapse n) b

theorem radioCall_agree {op : RadioOp} {arg : Word} {k k' : State → Out} (hk : ∀ u b, (k' (State.setErr u b)).Agree (k u))
    (s : State) (b : Bool) : (radioCall op arg (s.setErr b) k').Agree (radioCall op arg s k) :=
  transact_agree (fun _ => hk) s b

theorem diagCall_agree {live : Bool} {d : Diag} {k k' : State → Out} (hk : ∀ u b, (k' (State.setErr u b)).Agree (k u))
    (s : State) (b : Bool) : (diagCall live d (s.setErr b) k').Agree (diagCall live d s k) :=
  transact_agree (fun _ => hk) s b

theorem unlessHung_agree {rule : State → Out} {s : State} {b : Bool} (h : (rule (s.setErr b)).Agree (rule s)) :
    (unlessHung rule (s.setErr b)).Agree (unlessHung rule s) := by
  by_cases hh : s.hung = none
  · rwa [unlessHung_free hh, unlessHung_free (s := s.setErr b) hh]
  · rw [unlessHung_stuck hh, unlessHung_stuck (s := s.setErr b) hh]
    rfl

theorem loadBit_agree {k k' : State → State} (hk : ∀ u b, (k' (State.setErr u b)).hideErr = (k u).hideErr) (s : State)
    (b : Bool) : (loadBit (s.setErr b) k').Agree (loadBit s k) := by
  unfold loadBit
  rw [show (s.setErr b).txLevel = s.txLevel from rfl]
  rcases s.txLevel with _ | v
  · rfl
  · exact congrArg Host.Outcome.next (hk { s with txd := v, tRef := s.now } b)

theorem agree_ite {c : Prop} [Decidable c] {o o' p p' : Out} (ho : c → o'.Agree o) (hp : ¬c → p'.Agree p) :
    Out.Agree (if c then o' else p') (if c then o else p) := by
  by_cases h : c
  · rw [if_pos h, if_pos h]
    exact ho h
  · rw [if_neg h, if_neg h]
    exact hp h

theorem agree_next {u v : State} (h : v.hideErr = u.hideErr) : Out.Agree (.next v) (.next u) :=
  congrArg Host.Outcome.next h

theorem hideErr_ite {c : Prop} [Decidable c] {u u' v v' : State} (hu : u'.hideErr = u.hideErr)
    (hv : v'.hideErr = v.hideErr) : (if c then u' else v').hideErr = (if c then u else v).hideErr := by
  split
  · exact hu
  · exact hv

/-! ### Rule by rule -/

theorem bootLoad_agree (s : State) (b : Bool) : (bootLoad (s.setErr b)).Agree (bootLoad s) := by
  unfold bootLoad loadCall
  refine transact_agree (fun c u b => ?_) s b
  exact agree_next rfl

theorem bootApply_agree (s : State) (b : Bool) : (bootApply (s.setErr b)).Agree (bootApply s) := by
  refine radioCall_agree (fun u b => ?_) s b
  refine radioCall_agree (fun u b => ?_) u b
  refine radioCall_agree (fun u b => ?_) u b
  refine radioCall_agree (fun u b => ?_) u b
  refine radioCall_agree (fun u b => ?_) u b
  exact agree_next rfl

theorem bootReport_agree (s : State) (b : Bool) : (bootReport (s.setErr b)).Agree (bootReport s) := by
  refine diagCall_agree (fun u b => ?_) s b
  exact agree_next rfl

theorem rxSettle_agree (s : State) (b : Bool) : (rxSettle (s.setErr b)).Agree (rxSettle s) :=
  agree_next (hideErr_ite (c := s.now - s.tRef < s.cfg.tSettle) rfl rfl)

theorem rxWaitStart_agree (s : State) (b : Bool) : (rxWaitStart (s.setErr b)).Agree (rxWaitStart s) :=
  agree_next (hideErr_ite (c := s.cfg.tRxto ≤ s.now - s.tWin) rfl
    (hideErr_ite (c := s.isStart s.level = true) rfl rfl))

theorem rxWaitRise_agree (s : State) (b : Bool) : (rxWaitRise (s.setErr b)).Agree (rxWaitRise s) :=
  agree_next (hideErr_ite (c := s.level = true) rfl rfl)

theorem rxSampleDelay_agree (s : State) (b : Bool) : (rxSampleDelay (s.setErr b)).Agree (rxSampleDelay s) :=
  agree_ite (c := s.now - s.tRef < s.cfg.tBit) (fun _ => agree_next rfl) fun _ =>
    agree_ite (c := 8 ≤ s.bitcnt) (fun _ => rfl) fun _ => agree_next rfl

theorem rxWaitFall_agree (s : State) (b : Bool) : (rxWaitFall (s.setErr b)).Agree (rxWaitFall s) :=
  agree_next (hideErr_ite (c := s.level = true) rfl rfl)

theorem rxByteDone_agree (s : State) (b : Bool) : (rxByteDone (s.setErr b)).Agree (rxByteDone s) :=
  agree_ite (c := s.rxlen = s.cfg.rxbufMax) (fun _ => agree_next rfl) fun _ =>
    agree_ite (c := s.cfg.rxbufMax < s.rxlen) (fun _ => rfl) fun _ => agree_next rfl

theorem rxDoneRule_agree (s : State) (b : Bool) : (rxDoneRule (s.setErr b)).Agree (rxDoneRule s) :=
  agree_next (hideErr_ite (c := s.rxlen = 0) rfl rfl)

theorem sleepRule_agree (s : State) (b : Bool) : (sleepRule (s.setErr b)).Agree (sleepRule s) :=
  agree_next (hideErr_ite (c := s.now - s.tRef < s.cfg.tSleep) rfl rfl)

theorem rejectBuffer_agree (r : Reject) (s : State) (b : Bool) :
    (rejectBuffer r (s.setErr b)).Agree (rejectBuffer r s) := by
  have malformed : ∀ c, (rejectMalformed c (s.setErr b)).Agree (rejectMalformed c s) := by
    intro c
    refine diagCall_agree (fun u b => ?_) (s.signal true (.malformedPacket c)) b
    exact agree_next rfl
  cases r with
  | tooShort | wrongAddress => exact malformed _
  | truncatedSet | unrecognised => exact agree_next rfl
  | noSuchByte | notAck => rfl

theorem validateRule_agree (s : State) (b : Bool) : (validateRule (s.setErr b)).Agree (validateRule s) := by
  unfold validateRule
  rw [show validate (s.setErr b).cfg (s.setErr b).buffer = validate s.cfg s.buffer from rfl]
  rcases validate s.cfg s.buffer with _ | r
  · exact agree_next rfl
  · exact rejectBuffer_agree r s b

theorem dispatchRule_agree (s : State) (b : Bool) : (dispatchRule (s.setErr b)).Agree (dispatchRule s) := by
  unfold dispatchRule
  rw [show decodeCommand (s.setErr b).cfg (s.setErr b).buffer = decodeCommand s.cfg s.buffer from rfl]
  rcases decodeCommand_cases s.cfg s.buffer with ⟨_, _, _, _, hd, _, _⟩ | ⟨_, _, hd⟩ | hd | ⟨_, hd⟩ | hd <;> rw [hd]
  · exact agree_next rfl
  · exact agree_next rfl
  · exact rejectBuffer_agree _ s b
  · exact rejectBuffer_agree _ s b
  · exact rejectBuffer_agree _ s b

/-- A `SET` writes the flag and does not read it: what was there before only adds to what it leaves. -/
theorem execSet_agree (len : Byte) (power freq10 : Half) (tail : List Byte) (s : State) (b : Bool) :
    (execSet len power freq10 tail (s.setErr b)).Agree (execSet len power freq10 tail s) := by
  refine radioCall_agree (fun u b => ?_) (s.putSettings _ power) b
  refine radioCall_agree (fun u b => ?_) u b
  refine transact_agree (fun c u b => ?_) u b
  refine diagCall_agree (fun u b => ?_) ((u.commit c.ok).noteSave c.ok) (b || !c.ok)
  exact agree_next rfl

theorem setExecRule_agree (s : State) (b : Bool) : (setExecRule (s.setErr b)).Agree (setExecRule s) := by
  unfold setExecRule
  rw [show decodeSet (s.setErr b).buffer = decodeSet s.buffer from rfl]
  rcases hd : decodeSet s.buffer with _ | i
  · rfl
  · obtain ⟨len, p, f, tail, rfl⟩ := decodeSet_some hd
    exact execSet_agree len p f tail s b

theorem txSettle_agree (s : State) (b : Bool) : (txSettle (s.setErr b)).Agree (txSettle s) :=
  agree_ite (c := s.now - s.tRef < s.cfg.tSettle) (fun _ => agree_next rfl) fun _ =>
    loadBit_agree (fun _ _ => rfl) { s with txidx := 0, txbit := 0 } b

theorem txBit_agree (s : State) (b : Bool) : (txBit (s.setErr b)).Agree (txBit s) :=
  agree_ite (c := s.now - s.tRef < s.cfg.tBit) (fun _ => agree_next rfl) fun _ =>
    agree_ite (c := s.txbit + 1 = frameLen s.cfg) (fun _ => agree_next rfl) fun _ =>
      loadBit_agree (fun _ _ => rfl) { s with txbit := s.txbit + 1 } b

theorem txGap_agree (s : State) (b : Bool) : (txGap (s.setErr b)).Agree (txGap s) :=
  agree_ite (c := s.now - s.tRef < s.cfg.tGap) (fun _ => agree_next rfl) fun _ =>
    agree_ite (c := s.txidx + 1 = s.txlen) (fun _ => agree_next rfl) fun _ =>
      loadBit_agree (fun _ _ => rfl) { s with txidx := s.txidx + 1, txbit := 0 } b

/-! ### The step -/

theorem runRule_agree (s : State) (b : Bool) : (runRule (s.setErr b)).Agree (runRule s) := by
  unfold runRule
  simp only [transmitRule_eq_transmit, transmit]
  rw [show (s.setErr b).st = s.st from rfl]
  cases s.st
  case bootLoad => exact unlessHung_agree (bootLoad_agree s b)
  case bootApply => exact unlessHung_agree (bootApply_agree s b)
  case bootReport => exact unlessHung_agree (bootReport_agree s b)
  case idle => exact agree_next rfl
  case rxSettle => exact rxSettle_agree s b
  case rxWaitStart => exact rxWaitStart_agree s b
  case rxWaitRise => exact rxWaitRise_agree s b
  case rxSampleDelay => exact rxSampleDelay_agree s b
  case rxWaitFall => exact rxWaitFall_agree s b
  case rxByteDone => exact rxByteDone_agree s b
  case rxDone => exact rxDoneRule_agree s b
  case validate => exact unlessHung_agree (validateRule_agree s b)
  case dispatch => exact dispatchRule_agree s b
  case setExec => exact unlessHung_agree (setExecRule_agree s b)
  case txSettle => exact txSettle_agree s b
  case txBit => exact txBit_agree s b
  case txGap => exact txGap_agree s b
  case sleep => exact sleepRule_agree s b

theorem step_agree (s : State) (b : Bool) : Out.Agree (step (s.setErr b)) (step s) :=
  agree_ite (c := s.resetDue = true) (fun _ => agree_next rfl) fun _ => runRule_agree s b

/-- Settles O49: of all evaluations only a `SET`'s writes the flag, and the flag does not steer any. -/
theorem persistErrIsStickyAndUnread : Obligations.PersistErrIsStickyAndUnread := by
  refine ⟨fun s t hr h => ?_, step_agree⟩
  rw [(step_eval h).persistErr hr]
  simp only [State.saveFails, Bool.and_assoc]

end Sys2Proof.Machine
end

section
/-! PROOFS. The packet view (spec 10 R47), and the pins in the tick of an evaluation (R30): instant states, waits, samples and
the load of the startup. -/

namespace Sys2Proof.Machine

/-! ### The packet view -/

/-- Settles O37: with three bytes or more the buffer has the three fields, which are bytes 0 to 2 of `RXBUF`. -/
theorem packetIsAViewOfTheBuffer : Obligations.PacketIsAViewOfTheBuffer := by
  intro s hlen
  have h0 := s.buffer_getElem? 0 (by omega)
  have h1 := s.buffer_getElem? 1 (by omega)
  have h2 := s.buffer_getElem? 2 (by omega)
  unfold State.packet
  rcases hbuf : s.buffer with _ | ⟨a, _ | ⟨l, _ | ⟨c, p⟩⟩⟩ <;> rw [hbuf] at h0 h1 h2
  · cases h0
  · cases h1
  · cases h2
  · simp_all

/-! ### Pins at the present tick -/

/-- An evaluation that takes time shows the pins of its state in the present tick. -/
theorem pinsDuring_now {s u : State} (h : step s = .next u) (hu : s.wall < u.wall) :
    s.pinsDuring 1 s.wall = some s.pins := pinsDuring_here h le_rfl hu 0

/-- One that takes no time is followed, in the same tick, by one that does. -/
theorem pinsDuring_after {s u v : State} (h : step s = .next u) (h' : step u = .next v) (hu : u.wall = s.wall)
    (hv : u.wall < v.wall) : s.pinsDuring 2 s.wall = some u.pins := by
  rw [pinsDuring_next h le_rfl hu.le, ← hu]
  exact pinsDuring_now h' hv

/-- How long from `T_REF` on the state of `ST` only lets ticks pass (40 R122, R125, 41 R151 to R153, 46 R234). -/
def State.waitTicks (s : State) : Nat :=
  match s.st with
  | .rxSettle | .txSettle => s.cfg.tSettle
  | .rxSampleDelay | .txBit => s.cfg.tBit
  | .txGap => s.cfg.tGap
  | .sleep => s.cfg.tSleep
  | .bootLoad | .bootApply | .bootReport | .idle | .rxWaitStart | .rxWaitRise | .rxWaitFall | .rxByteDone | .rxDone
  | .validate | .dispatch | .setExec => 0

/-- While it does, a step is a tick. -/
theorem step_wait {s : State} (hr : s.resetDue = false) (hw : s.now - s.tRef < s.waitTicks) : step s = .next s.tick := by
  rw [step_of_not_due hr]
  unfold State.waitTicks at hw
  cases hst : s.st <;> simp only [hst] at hw <;>
    simp only [runRule, hst, transmitRule_eq_transmit, transmit]
  case rxSettle => rw [rxSettle, if_pos hw]
  case rxSampleDelay => rw [rxSampleDelay, if_pos hw]
  case txSettle => rw [txSettle, if_pos hw]
  case txBit => rw [txBit, if_pos hw]
  case txGap => rw [txGap, if_pos hw]
  case sleep => rw [sleepRule, if_pos hw]
  all_goals exact absurd hw (Nat.not_lt_zero _)

/-- `IDLE` enters the receive (R231). -/
theorem step_idle {s : State} (hr : s.resetDue = false) (hst : s.st = .idle) : step s = .next s.enterReceive := by
  rw [step_of_not_due hr]
  simp [runRule, hst, idleRule]

/-- A packet that decodes is what the Dispatcher's decode gives. -/
theorem decodeCommand_of_decodePacket {c : Config} {buf : List Byte} {i : Instr} (h : decodePacket c buf = .ok i) :
    decodeCommand c buf = .ok i := by
  unfold decodePacket at h
  split at h
  · cases h
  · exact h

/-- In `DISPATCH` a `BIND` loads the acknowledgement and enters `TRANSMIT` (R180, R183). -/
theorem step_dispatch_bind {s : State} {l : Byte} {tl : List Byte} (hr : s.resetDue = false) (hst : s.st = .dispatch)
    (hd : decodePacket s.cfg s.buffer = .ok (.bind l tl)) : step s = .next s.loadAck.enterTransmit := by
  rw [step_of_not_due hr]
  simp [runRule, hst, dispatchRule, decodeCommand_of_decodePacket hd, exec, execBind]

/-- In a state with the invariant an evaluation that samples succeeds, and takes the ticks of a sample. -/
theorem step_of_samples {s : State} (hr : s.resetDue = false) (hi : s.Inv) (hsamples : s.samples = true) :
    ∃ u, step s = .next u ∧ u.wall = s.wall + s.cfg.poll := by
  obtain ⟨-, hl⟩ := (inv_iff s).1 hi
  rw [step_of_not_due hr]
  cases hst : s.st <;> simp only [State.samples, hst] at hsamples <;> simp only [State.Local, hst] at hl <;>
    simp only [runRule, hst]
  case rxWaitStart =>
    have hwin : ¬s.cfg.tRxto ≤ s.now - s.tWin := Nat.not_le.2 (of_decide_eq_true hsamples)
    refine ⟨_, rfl, ?_⟩
    rw [if_neg hwin]
    split <;> exact (Nat.add_assoc ..).symm
  case rxWaitRise | rxWaitFall =>
    refine ⟨_, rfl, ?_⟩
    split <;> exact (Nat.add_assoc ..).symm
  case rxSampleDelay =>
    have hbit : ¬s.now - s.tRef < s.cfg.tBit := Nat.not_lt.2 (of_decide_eq_true hsamples)
    have hcnt : ¬8 ≤ s.bitcnt := Nat.not_le.2 hl.2.2
    refine ⟨_, by rw [rxSampleDelay, if_neg hbit, if_neg hcnt], ?_⟩
    exact (Nat.add_assoc ..).symm
  all_goals cases hsamples

/-- With no reset coming the load of `BOOT_LOAD` takes its ticks (R220, R207). -/
theorem step_bootLoad {s : State} {n : Nat} (hr : s.resets = []) (hst : s.st = .bootLoad) (hh : s.hung = none)
    (hn : (s.callAt 0).ticks = some n) : ∃ u, step s = .next u ∧ u.wall = s.wall + n := by
  rw [step_of_nil s hr]
  simp only [runRule, hst]
  rw [unlessHung_free hh, bootLoad, loadCall, transact_completes hr hn]
  exact ⟨_, rfl, (Nat.add_assoc ..).symm⟩

/-- Settles O57: `IDLE` and a `BIND`'s dispatch take no time and the settle after them shows its pins; a sample and a load
take time and show their own. -/
theorem pinsDuringATickFollowItsInstantStates : Obligations.PinsDuringATickFollowItsInstantStates := by
  intro s hr
  refine ⟨fun hst hsettle => ?_, fun l tl hst hd hsettle => ?_, fun hi hsamples => ?_, fun n d hst hnil hh hn hlt => ?_⟩
  · have hwait : step s.enterReceive = .next s.enterReceive.tick :=
      step_wait hr (by simpa [State.enterReceive, State.waitTicks] using hsettle)
    exact pinsDuring_after (step_idle hr hst) hwait rfl (Nat.lt_succ_self _)
  · have hwait : step s.loadAck.enterTransmit = .next s.loadAck.enterTransmit.tick :=
      step_wait hr (by simpa [State.enterTransmit, State.waitTicks] using hsettle)
    exact pinsDuring_after (step_dispatch_bind hr hst hd) hwait rfl (Nat.lt_succ_self _)
  · obtain ⟨u, hu, hwall⟩ := step_of_samples hr hi hsamples
    have hpoll : 1 ≤ s.cfg.poll := ((config_wf_iff _).1 hi.1).2.2.2.1
    rw [pinsDuring_now hu (by omega)]
    simp [State.pins, State.pinOe, State.pinOut, dir_rx_of_samples hi hsamples]
  · obtain ⟨u, hu, hwall⟩ := step_bootLoad hnil hst hh hn
    exact pinsDuring_here hu (Nat.le_add_right _ _) (by omega) 0

end Sys2Proof.Machine
end

section
/-! PROOFS. The transmitter's rules with the framing of D8 (spec 41 R150 to R154); runs, waits, and the pins through the ticks
of a wait (10 R30). -/

namespace Sys2Proof.Machine

/-! ### The transmitter's rules with the framing of D8 -/

/-- The level that bit `n` of byte `j` in `TXBUF` is driven at (R64, R152), with the polarity of R65. -/
def State.ackLevel (s : State) (j n : Nat) : Bool := (s.txbuf[j]?.getD 0).getLsbD (bitIndex s.cfg.bitOrder n)

theorem State.ackLevel_eq (s : State) {j : Nat} (hj : j < 4) (n : Nat) :
    s.ackLevel j n = s.txbuf[j].getLsbD (bitIndex s.cfg.bitOrder n) := by simp [State.ackLevel, hj]

/-- With the framing of D8 and the polarity of R65 the level selected is that of the bit. -/
theorem State.txLevel_d8 {s : State} (hf : s.cfg.txFraming = {}) (hp : s.cfg.lineActiveHigh = true) (hi : s.txidx < 4)
    (hb : s.txbit < 8) : s.txLevel = some (s.ackLevel s.txidx s.txbit) := by
  simp [State.txLevel, State.ackLevel_eq s hi, hi, frameBits, hf, bitsOf_getElem? _ _ _ hb, polarity, hp]

theorem loadBit_d8 {s : State} (hf : s.cfg.txFraming = {}) (hp : s.cfg.lineActiveHigh = true) (hi : s.txidx < 4)
    (hb : s.txbit < 8) (k : State → State) :
    loadBit s k = .next (k { s with txd := s.ackLevel s.txidx s.txbit, tRef := s.now }) := by
  simp [loadBit, State.txLevel_d8 hf hp hi hb]

section
variable {s : State} (hf : s.cfg.txFraming = {}) (hp : s.cfg.lineActiveHigh = true)
include hf hp

theorem txSettle_over (hw : s.cfg.tSettle ≤ s.now - s.tRef) :
    txSettle s =
      .next { s with txidx := 0, txbit := 0, txd := s.ackLevel 0 0, tRef := s.now, st := .txBit } := by
  rw [txSettle, if_neg (Nat.not_lt.2 hw)]
  exact loadBit_d8 (s := { s with txidx := 0, txbit := 0 }) hf hp (by simp) (by simp) _

theorem txBit_next (hw : s.cfg.tBit ≤ s.now - s.tRef) (hi : s.txidx < 4) (hb : s.txbit < 7) :
    txBit s = .next { s with txbit := s.txbit + 1, txd := s.ackLevel s.txidx (s.txbit + 1), tRef := s.now } := by
  rw [txBit, if_neg (Nat.not_lt.2 hw), if_neg (by rw [frameLen_d8 hf]; omega)]
  exact loadBit_d8 (s := { s with txbit := s.txbit + 1 }) hf hp hi (Nat.succ_lt_succ hb) _

theorem txGap_next (hw : s.cfg.tGap ≤ s.now - s.tRef) (hne : s.txidx + 1 ≠ s.txlen) (hi : s.txidx + 1 < 4) :
    txGap s =
      .next
        { s with txidx := s.txidx + 1, txbit := 0, txd := s.ackLevel (s.txidx + 1) 0, tRef := s.now, st := .txBit } := by
  rw [txGap, if_neg (Nat.not_lt.2 hw), if_neg hne]
  exact loadBit_d8 (s := { s with txidx := s.txidx + 1, txbit := 0 }) hf hp hi (by simp) _

omit hp in
/-- After the last bit the gap holds the latch (R94, D8). -/
theorem txBit_over (hw : s.cfg.tBit ≤ s.now - s.tRef) (hb : s.txbit = 7) :
    txBit s = .next { s with txbit := 8, tRef := s.now, st := .txGap } := by
  rw [txBit, if_neg (Nat.not_lt.2 hw), if_pos (by rw [frameLen_d8 hf, hb])]
  simp [State.gapLevel, hf, hb]

end

theorem txGap_over {s : State} (hw : s.cfg.tGap ≤ s.now - s.tRef) (hlast : s.txidx + 1 = s.txlen) :
    txGap s = .next { s with txidx := s.txidx + 1, txbit := 0, tRef := s.now, st := .sleep } := by
  rw [txGap, if_neg (Nat.not_lt.2 hw), if_pos hlast]
  rfl

/-- In the transmitter's states a step is the transmitter's rule. -/
theorem step_transmitting {s : State} (hr : s.resets = []) (ht : s.st.transmitting = true) : step s = transmit s := by
  rw [step_of_nil s hr, runRule]
  cases hst : s.st <;> rw [hst] at ht
  case txSettle | txBit | txGap => exact transmitRule_eq_transmit s
  all_goals cases ht

/-! ### Runs and waits -/

/-- Some number of evaluations leads from `s` to `u`. -/
def State.Reaches (s u : State) : Prop := ∃ k, s.run k = .next u

theorem State.Reaches.refl (s : State) : s.Reaches s := ⟨0, rfl⟩

theorem State.Reaches.trans {s u v : State} (h : s.Reaches u) (h' : u.Reaches v) : s.Reaches v := by
  obtain ⟨k, hk⟩ := h
  obtain ⟨m, hm⟩ := h'
  exact ⟨k + m, by rw [run_add hk, hm]⟩

theorem State.Reaches.of_step {s u : State} (h : step s = .next u) : s.Reaches u := ⟨1, by rw [run_succ_of_next h]; rfl⟩

/-- A state that has just set `T_REF` waits: as long as it does, each tick is an evaluation that only lets it pass. -/
theorem step_elapse {s : State} {d : Nat} (hr : s.resets = []) (href : s.tRef = s.now) (hd : d < s.waitTicks) :
    step (s.elapse d) = .next (s.elapse (d + 1)) := by
  refine step_wait (s := s.elapse d) (resetDue_of_nil hr) ?_
  show s.now + d - s.tRef < s.waitTicks
  omega

theorem reaches_elapse {s : State} {d : Nat} (hr : s.resets = []) (href : s.tRef = s.now) (hd : d ≤ s.waitTicks) :
    s.Reaches (s.elapse d) := ⟨d, run_wait s d fun _ hj => step_elapse hr href (by omega)⟩

/-- Once the wait is over, the next evaluation acts. -/
theorem reaches_of_wait {s u : State} {n : Nat} (hr : s.resets = []) (href : s.tRef = s.now) (hn : n = s.waitTicks)
    (h : step (s.elapse n) = .next u) : s.Reaches u := (reaches_elapse hr href hn.le).trans (.of_step h)

/-- A run of one evaluation or more begins with a step. -/
theorem run_succ_next {s u : State} {k : Nat} (h : s.run (k + 1) = .next u) :
    ∃ v, step s = .next v ∧ v.run k = .next u := by
  rcases hs : step s with v | r | r
  · exact ⟨v, rfl, by rwa [run_succ_of_next hs] at h⟩
  · simp [State.run, hs] at h
  · simp [State.run, hs] at h

/-- With no reset coming none comes in a run, and no time is lost. -/
theorem run_resets_wall {s u : State} {k : Nat} (hr : s.resets = []) (h : s.run k = .next u) :
    u.resets = [] ∧ s.wall ≤ u.wall := by
  induction k generalizing s with
  | zero =>
    injection h with h
    exact ⟨h ▸ hr, h ▸ le_rfl⟩
  | succ k ih =>
    obtain ⟨v, hs, hv⟩ := run_succ_next h
    obtain ⟨hres, hwall⟩ := ih ((step_eval hs).resets hr) hv
    exact ⟨hres, ((step_eval hs).wall_le hr).trans hwall⟩

/-- The ticks from the end of a run on are those of its last state. -/
theorem pinsDuring_run {s u : State} {k t : Nat} (hr : s.resets = []) (h : s.run k = .next u) (ht : u.wall ≤ t) (m : Nat) :
    s.pinsDuring (k + m) t = u.pinsDuring m t := by
  induction k generalizing s with
  | zero =>
    injection h with h
    rw [h, Nat.zero_add]
  | succ k ih =>
    obtain ⟨v, hs, hv⟩ := run_succ_next h
    have hres := (step_eval hs).resets hr
    have hvt := (run_resets_wall hres hv).2.trans ht
    rw [Nat.succ_add, pinsDuring_next hs (((step_eval hs).wall_le hr).trans hvt) hvt]
    exact ih hres hv

/-- Through the ticks of a wait that a run reaches, the pins are those of its beginning. -/
theorem pins_through_wait {s u : State} {d : Nat} (hr : s.resets = []) (hu : s.Reaches u) (href : u.tRef = u.now)
    (hd : d < u.waitTicks) : ∃ k, s.pinsDuring k (u.wall + d) = some u.pins := by
  obtain ⟨m, hm⟩ := hu
  have hru : u.resets = [] := (run_resets_wall hr hm).1
  obtain ⟨k, hk⟩ := State.Reaches.trans ⟨m, hm⟩ (reaches_elapse hru href hd.le)
  have hwall : (u.elapse d).wall = u.wall + d := (Nat.add_assoc ..).symm
  have hnext : (u.elapse (d + 1)).wall = u.wall + d + 1 := (Nat.add_assoc ..).symm
  refine ⟨k + 1, ?_⟩
  rw [pinsDuring_run hr hk hwall.le, ← hwall, pinsDuring_now (step_elapse hru href hd) (by omega)]
  rfl

end Sys2Proof.Machine
end

section
/-! PROOFS. The acknowledgement's phases: where each begins, the runs from the entry of `TRANSMIT` to it, and the pins. -/

namespace Sys2Proof.Machine

/-! ### The phases -/

/-- `TRANSMIT` has just been entered with a packet of four bytes, and no reset is coming; framing and polarity are the
spec's. -/
structure State.Sends (s : State) : Prop where
  st : s.st = .txSettle
  tRef : s.tRef = s.now
  resets : s.resets = []
  dir : s.dir = .tx
  txlen : s.txlen = 4
  d8 : s.cfg.txFraming = {}
  polarity : s.cfg.lineActiveHigh = true

/-- The ticks from the entry of `TRANSMIT` to bit `n` of byte `j` (R154); to the gap after byte `j` for `n` = 8, and to the
end of the packet for `j` = 4. -/
def bitStart (c : Config) (j n : Nat) : Nat := c.tSettle + (8 * c.tBit + c.tGap) * j + c.tBit * n

theorem bitStart_succ (c : Config) (j n : Nat) : bitStart c j (n + 1) = bitStart c j n + c.tBit := by
  rw [bitStart, Nat.mul_succ, ← Nat.add_assoc, bitStart]

theorem bitStart_next_byte (c : Config) (j : Nat) : bitStart c (j + 1) 0 = bitStart c j 8 + c.tGap := by
  simp only [bitStart, Nat.mul_succ]
  omega

/-- Bit `n` of byte `j` begins. -/
def State.atBit (s : State) (j n : Nat) : State :=
  { s with
    now := s.now + bitStart s.cfg j n
    tRef := s.now + bitStart s.cfg j n
    txidx := j
    txbit := n
    txd := s.ackLevel j n
    st := .txBit }

/-- The gap after byte `j` begins. -/
def State.atGap (s : State) (j : Nat) : State :=
  { s with
    now := s.now + bitStart s.cfg j 8
    tRef := s.now + bitStart s.cfg j 8
    txidx := j
    txbit := 8
    txd := s.ackLevel j 7
    st := .txGap }

/-- The sleep after the packet begins. -/
def State.atSleep (s : State) : State :=
  { s with
    now := s.now + bitStart s.cfg 4 0
    tRef := s.now + bitStart s.cfg 4 0
    txidx := 4
    txbit := 0
    txd := s.ackLevel 3 7
    st := .sleep }

theorem State.atBit_wall (s : State) (j n : Nat) : (s.atBit j n).wall = s.wall + bitStart s.cfg j n :=
  (Nat.add_assoc ..).symm

theorem State.atGap_wall (s : State) (j : Nat) : (s.atGap j).wall = s.wall + bitStart s.cfg j 8 :=
  (Nat.add_assoc ..).symm

theorem State.atSleep_wall (s : State) : s.atSleep.wall = s.wall + bitStart s.cfg 4 0 := (Nat.add_assoc ..).symm

/-! ### Each phase leads to the next -/

/-- After a wait of `n` ticks `n` ticks have passed since `T_REF`. -/
theorem elapse_over {n : Nat} (s : State) (href : s.tRef = s.now) : n ≤ (s.elapse n).now - (s.elapse n).tRef := by
  simp [State.elapse, href]

section
variable {s : State} (h : s.Sends)
include h

theorem State.Sends.waitTicks_eq : s.waitTicks = s.cfg.tSettle := by simp [State.waitTicks, h.st]

/-- What the transmitter's rule does at the end of a phase's wait is the next step. -/
theorem State.Sends.reaches_of_transmit {u v : State} {n : Nat} (hr : u.resets = s.resets) (href : u.tRef = u.now)
    (hn : n = u.waitTicks) (ht : u.st.transmitting = true) (hv : transmit (u.elapse n) = .next v) : u.Reaches v := by
  have hru : u.resets = [] := hr.trans h.resets
  exact reaches_of_wait hru href hn (by rwa [step_transmitting (s := u.elapse n) hru ht])

theorem State.Sends.reaches_firstBit : s.Reaches (s.atBit 0 0) := by
  refine h.reaches_of_transmit rfl h.tRef h.waitTicks_eq.symm (by rw [h.st]; rfl) ?_
  have hover : s.cfg.tSettle ≤ (s.elapse s.cfg.tSettle).now - (s.elapse s.cfg.tSettle).tRef := by simp [State.elapse, h.tRef]
  rw [transmit, show (s.elapse s.cfg.tSettle).st = .txSettle from h.st]
  exact txSettle_over (s := s.elapse s.cfg.tSettle) h.d8 h.polarity hover

theorem State.Sends.reaches_nextBit {j n : Nat} (hj : j < 4) (hn : n < 7) :
    (s.atBit j n).Reaches (s.atBit j (n + 1)) := by
  refine h.reaches_of_transmit (n := s.cfg.tBit) rfl rfl rfl rfl ?_
  refine (txBit_next (s := (s.atBit j n).elapse s.cfg.tBit) h.d8 h.polarity (elapse_over _ rfl) hj hn).trans ?_
  simp only [State.atBit, State.elapse, bitStart_succ, Nat.add_assoc]
  rfl

theorem State.Sends.reaches_gap {j : Nat} : (s.atBit j 7).Reaches (s.atGap j) := by
  refine h.reaches_of_transmit (n := s.cfg.tBit) rfl rfl rfl rfl ?_
  refine (txBit_over (s := (s.atBit j 7).elapse s.cfg.tBit) h.d8 (elapse_over _ rfl) rfl).trans ?_
  simp only [State.atBit, State.atGap, State.elapse, bitStart_succ s.cfg j 7, Nat.add_assoc]

theorem State.Sends.reaches_nextByte {j : Nat} (hj : j < 3) : (s.atGap j).Reaches (s.atBit (j + 1) 0) := by
  refine h.reaches_of_transmit (n := s.cfg.tGap) rfl rfl rfl rfl ?_
  have hne : j + 1 ≠ s.txlen := by
    rw [h.txlen]
    omega
  refine (txGap_next (s := (s.atGap j).elapse s.cfg.tGap) h.d8 h.polarity (elapse_over _ rfl) hne
    (Nat.succ_lt_succ hj)).trans ?_
  simp only [State.atBit, State.atGap, State.elapse, bitStart_next_byte, Nat.add_assoc]
  rfl

theorem State.Sends.reaches_sleep : (s.atGap 3).Reaches s.atSleep := by
  refine h.reaches_of_transmit (n := s.cfg.tGap) rfl rfl rfl rfl ?_
  refine (txGap_over (s := (s.atGap 3).elapse s.cfg.tGap) (elapse_over _ rfl) h.txlen.symm).trans ?_
  simp only [State.atGap, State.atSleep, State.elapse, bitStart_next_byte s.cfg 3, Nat.add_assoc]

/-- From the entry of `TRANSMIT` the block gets to every bit of every byte. -/
theorem State.Sends.reaches_atBit {j n : Nat} (hj : j < 4) (hn : n < 8) : s.Reaches (s.atBit j n) := by
  have bits : ∀ {i m}, i < 4 → m < 8 → s.Reaches (s.atBit i 0) → s.Reaches (s.atBit i m) := by
    intro i m hi hm h0
    induction m with
    | zero => exact h0
    | succ m ih => exact (ih (by omega)).trans (h.reaches_nextBit hi (by omega))
  refine bits hj hn ?_
  induction j with
  | zero => exact h.reaches_firstBit
  | succ j ih =>
    exact ((bits (by omega) (by omega) (ih (by omega))).trans h.reaches_gap).trans (h.reaches_nextByte (by omega))

theorem State.Sends.reaches_atGap {j : Nat} (hj : j < 4) : s.Reaches (s.atGap j) :=
  (h.reaches_atBit hj (by omega)).trans h.reaches_gap

theorem State.Sends.reaches_atSleep : s.Reaches s.atSleep := (h.reaches_atGap (by omega)).trans h.reaches_sleep

/-- After the sleep the line is released at once (R234, R231). -/
theorem State.Sends.reaches_receive : s.Reaches ((s.atSleep.elapse s.cfg.tSleep).goto .idle).enterReceive := by
  have hwake : step (s.atSleep.elapse s.cfg.tSleep) = .next ((s.atSleep.elapse s.cfg.tSleep).goto .idle) := by
    rw [step_of_nil (s.atSleep.elapse s.cfg.tSleep) h.resets]
    exact congrArg Host.Outcome.next (if_neg (Nat.not_lt.2 (elapse_over s.atSleep rfl)))
  have hidle : step ((s.atSleep.elapse s.cfg.tSleep).goto .idle) = .next _ :=
    step_idle (s := (s.atSleep.elapse s.cfg.tSleep).goto .idle) (resetDue_of_nil h.resets) rfl
  have hsleep : s.atSleep.Reaches _ := reaches_of_wait (s := s.atSleep) h.resets rfl rfl hwake
  exact h.reaches_atSleep.trans (hsleep.trans (.of_step hidle))

/-- In each tick of a phase that drives the line, the pins show the latch as it stands at the phase's beginning. -/
theorem State.Sends.pins_in_phase {u : State} {d t : Nat} (hu : s.Reaches u) (href : u.tRef = u.now)
    (hdir : u.dir = s.dir) (hd : d < u.waitTicks) (ht : t = u.wall + d) :
    ∃ k, s.pinsDuring k t = some { oe := true, out := u.txd } := by
  obtain ⟨k, hk⟩ := pins_through_wait h.resets hu href hd
  exact ⟨k, by rw [ht, hk]; simp [State.pins, State.pinOe, State.pinOut, hdir, h.dir]⟩

end

/-- Settles O58: the phases follow each other from the entry of `TRANSMIT` to the next receive, and each holds its pins. -/
theorem acknowledgementOnThePins : Obligations.AcknowledgementOnThePins := by
  intro s hst href hr hdir hlen hf hp
  have h : s.Sends := ⟨hst, href, hr, hdir, hlen, hf, hp⟩
  refine ⟨fun d hd => ?_, fun j n d hj hn hd => ?_, fun j d hj hd => ?_, fun d hd => ?_, fun hsettle => ?_⟩
  · exact h.pins_in_phase (.refl s) href rfl (h.waitTicks_eq.symm ▸ hd) rfl
  · rw [← s.ackLevel_eq hj]
    refine h.pins_in_phase (h.reaches_atBit hj hn) rfl rfl hd ?_
    rw [s.atBit_wall, bitStart, ← Nat.add_assoc s.wall]
  · rw [← s.ackLevel_eq hj]
    refine h.pins_in_phase (h.reaches_atGap hj) rfl rfl hd ?_
    rw [s.atGap_wall, bitStart, ← Nat.add_assoc s.wall]
  · rw [← s.ackLevel_eq (by omega)]
    refine h.pins_in_phase h.reaches_atSleep rfl rfl hd ?_
    rw [s.atSleep_wall, bitStart, Nat.mul_zero, Nat.add_zero, ← Nat.add_assoc s.wall]
  · rw [← s.ackLevel_eq (by omega)]
    have hwall : ((s.atSleep.elapse s.cfg.tSleep).goto .idle).enterReceive.wall = s.atSleep.wall + s.cfg.tSleep :=
      (Nat.add_assoc ..).symm
    have ht : s.wall + (s.cfg.tSettle + (8 * s.cfg.tBit + s.cfg.tGap) * 4 + s.cfg.tSleep) =
        ((s.atSleep.elapse s.cfg.tSleep).goto .idle).enterReceive.wall + 0 := by
      rw [hwall, s.atSleep_wall, bitStart, Nat.mul_zero, Nat.add_zero, Nat.add_zero, ← Nat.add_assoc s.wall]
    rw [ht]
    exact pins_through_wait hr h.reaches_receive rfl hsettle

end Sys2Proof.Machine
end

section
/-! PROOFS. The frames of the three instructions (spec 20 R61, 43 R181, R183, R185): what `SET` writes, and what the
transmitter writes. -/

namespace Sys2Proof.Machine

/-- `t` is `s` but for what a `SET` writes: `ST`, the time, the settings, the flag, the store, the transactions. -/
def State.SetWrites (s t : State) : Prop :=
  t = { s with
    st := t.st, now := t.now, tRef := t.tRef, freq := t.freq, power := t.power, persistErr := t.persistErr, store := t.store,
    calls := t.calls, callNo := t.callNo, hung := t.hung, trace := t.trace }

/-- `t` is `s` but for what the transmitter writes: `ST`, the time, the pin and the transmit registers. -/
def State.TransmitWrites (s t : State) : Prop :=
  t = { s with
    st := t.st, now := t.now, tRef := t.tRef, dir := t.dir, txd := t.txd, txbuf := t.txbuf, txlen := t.txlen,
    txidx := t.txidx, txbit := t.txbit }

/-! ### `SET` -/

theorem State.SetWrites.trans {s u t : State} (h : s.SetWrites u) (h' : u.SetWrites t) : s.SetWrites t := by
  unfold State.SetWrites at *
  rw [h', h]

theorem State.SetWrites.putSettings (s : State) (f : Word) (p : Half) : s.SetWrites (s.putSettings f p) := rfl

theorem State.SetWrites.noted (s : State) (st : Option (Word × Half)) (b : Bool) : s.SetWrites (s.noted st b) := rfl

theorem State.SetWrites.noteSave (s : State) (ok : Bool) : s.SetWrites (s.noteSave ok) := rfl

theorem State.SetWrites.hang (s : State) (ev : Event) : s.SetWrites (s.hang ev) := rfl

theorem State.SetWrites.enterSleep (s : State) : s.SetWrites s.enterSleep := rfl

theorem State.Passes.setWrites {s u : State} (h : s.Passes u) : s.SetWrites u := by
  obtain ⟨n, cs, k, es, _, rfl⟩ := h
  rfl

theorem State.SetWrites.resets {s u : State} (h : s.SetWrites u) : u.resets = s.resets := by
  have hw : u = _ := h
  rw [hw]

section
variable {s u t : State} (hr : s.resets = []) (hu : s.SetWrites u)
include hr hu

/-- A transaction of a `SET` that no reset abandons: only what the rule does after it is left to show. -/
theorem transact_setWrites {ev : Event} (hev : ∀ f p, ev ≠ .save f p) {k : Call → State → Out}
    (h : transact true ev u k = .next t) (hrun : ∀ c v, s.SetWrites v → k c v = .next t → s.SetWrites t) :
    s.SetWrites t := by
  rcases transact_next hev h with ⟨v, _, _, hv, _, hk⟩ | ⟨_, hne, _, _⟩ | ⟨v, _, hv, rfl⟩
  · exact hrun _ v (hu.trans hv.setWrites) hk
  · exact absurd (hu.resets.trans hr) hne
  · exact hu.trans (hv.setWrites.trans (.hang v ev))

theorem saveCall_setWrites {k : Bool → State → Out} (h : saveCall u k = .next t)
    (hrun : ∀ ok v, s.SetWrites v → k ok v = .next t → s.SetWrites t) : s.SetWrites t := by
  rcases saveCall_next h with ⟨v, _, st, _, hv, _, _, hk⟩ | ⟨_, hne, _, _⟩ | ⟨v, st, ev, _, hv, _, rfl⟩
  · exact hrun _ _ (hu.trans (hv.setWrites.trans (.noted v st _))) hk
  · exact absurd (hu.resets.trans hr) hne
  · exact hu.trans (hv.setWrites.trans ((State.SetWrites.noted v st _).trans (.hang _ ev)))

/-- The diagnostic of a failed save, and the sleep. -/
theorem setDiag_setWrites {live : Bool} {d : Diag} (h : diagCall live d u (fun v => .next v.enterSleep) = .next t) :
    s.SetWrites t := by
  have sleep : ∀ v, s.SetWrites v → (.next v.enterSleep : Out) = .next t → s.SetWrites t := by
    intro v hv h
    injection h with h
    exact h ▸ hv.trans (.enterSleep v)
  cases live with
  | false =>
    rw [diagCall_not_live] at h
    exact sleep u hu h
  | true => exact transact_setWrites hr hu (by simp) h fun _ => sleep

end

/-- The frame of `SET`, whatever `ST` is and whether its transactions complete or not. -/
theorem execSet_setWrites {s t : State} {len : Byte} {power freq10 : Half} {tail : List Byte} (hr : s.resets = [])
    (h : execSet len power freq10 tail s = .next t) : s.SetWrites t := by
  unfold execSet at h
  refine transact_setWrites hr (.putSettings s _ power) (by simp) h fun _ s1 h1 h => ?_
  refine transact_setWrites hr h1 (by simp) h fun _ s2 h2 h => ?_
  refine saveCall_setWrites hr h2 h fun ok s3 h3 h => ?_
  exact setDiag_setWrites hr (h3.trans (.noteSave s3 ok)) h

/-! ### `BIND_ACK` -/

theorem txSettle_transmitWrites {s t : State} (h : txSettle s = .next t) : s.TransmitWrites t := by
  unfold txSettle at h
  split at h
  · injection h with h
    exact h ▸ rfl
  · obtain ⟨v, rfl⟩ := loadBit_next h
    rfl

theorem txBit_transmitWrites {s t : State} (h : txBit s = .next t) : s.TransmitWrites t := by
  unfold txBit at h
  split at h
  · injection h with h
    exact h ▸ rfl
  · split at h
    · injection h with h
      exact h ▸ rfl
    · obtain ⟨v, rfl⟩ := loadBit_next h
      rfl

theorem txGap_transmitWrites {s t : State} (h : txGap s = .next t) : s.TransmitWrites t := by
  unfold txGap at h
  split at h
  · injection h with h
    exact h ▸ rfl
  · split at h
    · injection h with h
      exact h ▸ rfl
    · obtain ⟨v, rfl⟩ := loadBit_next h
      rfl

/-- The transmitter's rules write the pin and the transmit registers, and so does the entry of `TRANSMIT`. -/
theorem transmit_transmitWrites {s t : State} (h : transmit s = .next t) : s.TransmitWrites t := by
  unfold transmit at h
  split at h
  · exact txSettle_transmitWrites h
  · exact txBit_transmitWrites h
  · exact txGap_transmitWrites h
  all_goals
    injection h with h
    exact h ▸ rfl

/-- Settles O22: `SET` writes only what `SetWrites` lists, `BIND_ACK` only what `TransmitWrites` does, and `BIND` loads the
acknowledgement and enters `TRANSMIT`. -/
theorem instructionsLeaveTheRestAlone : Obligations.InstructionsLeaveTheRestAlone := by
  intro i s t hr h
  cases i with
  | set len power freq10 tail =>
    have hw : t = _ := execSet_setWrites (len := len) (tail := tail) hr h
    rw [hw]
    exact ⟨fun _ => rfl, rfl, rfl, rfl, rfl, rfl, rfl, rfl, rfl, rfl, rfl, rfl, rfl, rfl, rfl⟩
  | bind len tail =>
    injection h with h
    subst h
    exact ⟨fun _ => rfl, rfl, rfl, rfl, rfl, rfl, rfl, rfl, rfl, rfl, rfl, rfl, rfl, rfl, rfl, rfl, rfl, rfl, rfl⟩
  | bindAck =>
    have hw : t = _ := transmit_transmitWrites h
    rw [hw]
    exact ⟨fun _ => rfl, rfl, rfl, rfl, rfl, rfl, rfl, rfl, rfl, rfl, rfl, rfl, rfl, rfl, rfl⟩

end Sys2Proof.Machine
end

section
/-! PROOFS. What is read of `RXBUF` (spec 20 R61, 30 R106, R107): its length, byte 0 and bytes 2 to 6. Two states whose
buffers agree on these take the same step, the content of `RXBUF` apart. -/

namespace Sys2Proof.Machine

/-! ### Decoding -/

/-- The instruction with what no rule reads blotted out: the length byte, and the bytes after the operands. -/
def hideUnread : Instr → Instr
  | .set _ power freq10 _ => .set 0 power freq10 []
  | .bind _ _ => .bind 0 []
  | .bindAck => .bindAck

/-- The two buffers are equally long and agree on the bytes that are read. -/
def SameRead (buf' buf : List Byte) : Prop :=
  buf'.length = buf.length ∧ ∀ a, a = 0 ∨ (2 ≤ a ∧ a ≤ 6) → buf'[a]? = buf[a]?

theorem exec_hideUnread (i : Instr) (s : State) : exec (hideUnread i) s = exec i s := by
  cases i <;> rfl

/-- Of a `SET` bytes 3 to 6 are read. -/
theorem decodeSet_hideUnread : ∀ buf : List Byte, (decodeSet buf).map hideUnread =
    if 7 ≤ buf.length then
      some (.set 0 (le16 (buf[3]?.getD 0) (buf[4]?.getD 0)) (le16 (buf[5]?.getD 0) (buf[6]?.getD 0)) [])
    else none
  | [] | [_] | [_, _] | [_, _, _] | [_, _, _, _] | [_, _, _, _, _] | [_, _, _, _, _, _] => rfl
  | _ :: _ :: _ :: _ :: _ :: _ :: _ :: tail => (if_pos (Nat.le_add_left 7 tail.length)).symm

/-- Of a `BIND` no byte is read. -/
theorem decodeBind_hideUnread : ∀ buf : List Byte, (decodeBind buf).map hideUnread =
    if 3 ≤ buf.length then some (.bind 0 []) else none
  | [] | [_] | [_, _] => rfl
  | _ :: _ :: _ :: tail => (if_pos (Nat.le_add_left 3 tail.length)).symm

section
variable {buf' buf : List Byte} (h : SameRead buf' buf)
include h

theorem decodeSet_sameRead : (decodeSet buf').map hideUnread = (decodeSet buf).map hideUnread := by
  obtain ⟨hlen, hread⟩ := h
  rw [decodeSet_hideUnread, decodeSet_hideUnread, hlen, hread 3 (by omega), hread 4 (by omega), hread 5 (by omega),
    hread 6 (by omega)]

theorem decodeBind_sameRead : (decodeBind buf').map hideUnread = (decodeBind buf).map hideUnread := by
  rw [decodeBind_hideUnread, decodeBind_hideUnread, h.1]

/-- The Dispatcher's decode reads byte 2, the length, and the operands of a `SET` (43 R180). -/
theorem decodeCommand_sameRead (c : Config) :
    (decodeCommand c buf').map hideUnread = (decodeCommand c buf).map hideUnread := by
  have hset := decodeSet_sameRead h
  have hbind := decodeBind_sameRead h
  obtain ⟨hlen, hread⟩ := h
  unfold decodeCommand
  rw [hread 2 (by omega), hlen]
  rcases buf[2]? with _ | t
  · rfl
  dsimp only
  split_ifs
  · rcases hd' : decodeSet buf' with _ | i' <;> rcases hd : decodeSet buf with _ | i <;> simp_all [Except.map]
  · rfl
  · rcases hd' : decodeBind buf' with _ | i' <;> rcases hd : decodeBind buf with _ | i <;> simp_all [Except.map]
  · rfl

/-- The Validator reads the length and byte 0 (42 R171). -/
theorem validate_sameRead (c : Config) : validate c buf' = validate c buf := by
  obtain ⟨hlen, hread⟩ := h
  have hfirst := hread 0 (.inl rfl)
  unfold validate
  rcases buf' with _ | ⟨a', l'⟩ <;> rcases buf with _ | ⟨a, l⟩ <;> simp_all

end

/-! ### States that differ in the content of `RXBUF` -/

/-- The state with other bytes in `RXBUF`. -/
def State.setBuf (s : State) (m : List Host.Cell) : State := { s with rxbuf := m }

/-- The state with the content of `RXBUF` blotted out. -/
def State.hideBuf (s : State) : State := { s with rxbuf := [] }

/-- The two states are the same, the content of `RXBUF` apart. -/
def State.Alike (u v : State) : Prop := u.hideBuf = v.hideBuf

/-- The two outcomes are the same, the content of `RXBUF` apart. -/
def Out.Alike (o o' : Out) : Prop := Out.mapNext State.hideBuf o = Out.mapNext State.hideBuf o'

theorem sameRead_buffer {s : State} {m : List Host.Cell}
    (hm : ∀ a, a = 0 ∨ (2 ≤ a ∧ a ≤ 6) → memRead m a = memRead s.rxbuf a) :
    SameRead (s.setBuf m).buffer s.buffer := by
  refine ⟨by simp [State.setBuf], fun a ha => ?_⟩
  by_cases hlt : a < s.rxlen
  · rw [State.buffer_getElem? s a hlt, State.buffer_getElem? (s.setBuf m) a hlt]
    exact congrArg some (hm a ha)
  · rw [List.getElem?_eq_none (by simpa [State.setBuf] using hlt), List.getElem?_eq_none (by simpa using hlt)]

theorem alike_next {u v : State} (h : u.Alike v) : Out.Alike (.next u) (.next v) := congrArg Host.Outcome.next h

/-- Two rules that make the same test are related when their branches are. -/
theorem ite_related {α : Type} {R : α → α → Prop} {c : Prop} [Decidable c] {a a' b b' : α} (ha : R a' a)
    (hb : R b' b) : R (if c then a' else b') (if c then a else b) := by
  split
  · exact ha
  · exact hb

theorem transact_alike {live : Bool} {ev : Event} {k k' : Call → State → Out}
    (hk : ∀ c u m, (k' c (State.setBuf u m)).Alike (k c u)) (s : State) (m : List Host.Cell) :
    (transact live ev (s.setBuf m) k').Alike (transact live ev s k) := by
  refine transact_mapNext_congr rfl rfl rfl rfl rfl fun n => ?_
  cases live
  · exact hk _ s m
  · exact hk _ ((s.issue ev).elapse n) m

theorem radioCall_alike {op : RadioOp} {arg : Word} {k k' : State → Out}
    (hk : ∀ u m, (k' (State.setBuf u m)).Alike (k u)) (s : State) (m : List Host.Cell) :
    (radioCall op arg (s.setBuf m) k').Alike (radioCall op arg s k) :=
  transact_alike (fun _ => hk) s m

theorem diagCall_alike {live : Bool} {d : Diag} {k k' : State → Out} (hk : ∀ u m, (k' (State.setBuf u m)).Alike (k u))
    (s : State) (m : List Host.Cell) : (diagCall live d (s.setBuf m) k').Alike (diagCall live d s k) :=
  transact_alike (fun _ => hk) s m

theorem unlessHung_alike {rule : State → Out} {s : State} {m : List Host.Cell}
    (h : (rule (s.setBuf m)).Alike (rule s)) : (unlessHung rule (s.setBuf m)).Alike (unlessHung rule s) := by
  by_cases hh : s.hung = none
  · rwa [unlessHung_free hh, unlessHung_free (s := s.setBuf m) hh]
  · rw [unlessHung_stuck hh, unlessHung_stuck (s := s.setBuf m) hh]
    rfl

theorem loadBit_alike {k : State → State} (hk : ∀ u m, (k (State.setBuf u m)).Alike (k u)) (s : State)
    (m : List Host.Cell) : (loadBit (s.setBuf m) k).Alike (loadBit s k) := by
  unfold loadBit
  rw [show (s.setBuf m).txLevel = s.txLevel from rfl]
  rcases s.txLevel with _ | v
  · rfl
  · exact alike_next (hk { s with txd := v, tRef := s.now } m)

/-! ### The rules that read no byte of `RXBUF` -/

section
variable (s : State) (m : List Host.Cell)

theorem bootLoad_alike : (bootLoad (s.setBuf m)).Alike (bootLoad s) := by
  unfold bootLoad loadCall
  refine transact_alike (fun c u m => ?_) s m
  exact alike_next rfl

theorem bootApply_alike : (bootApply (s.setBuf m)).Alike (bootApply s) := by
  refine radioCall_alike (fun u m => ?_) s m
  refine radioCall_alike (fun u m => ?_) u m
  refine radioCall_alike (fun u m => ?_) u m
  refine radioCall_alike (fun u m => ?_) u m
  refine radioCall_alike (fun u m => ?_) u m
  exact alike_next rfl

theorem bootReport_alike : (bootReport (s.setBuf m)).Alike (bootReport s) := by
  refine diagCall_alike (fun u m => ?_) s m
  exact alike_next rfl

theorem rxSettle_alike : (rxSettle (s.setBuf m)).Alike (rxSettle s) :=
  alike_next (ite_related (c := s.now - s.tRef < s.cfg.tSettle) rfl rfl)

theorem rxWaitStart_alike : (rxWaitStart (s.setBuf m)).Alike (rxWaitStart s) :=
  alike_next (ite_related (c := s.cfg.tRxto ≤ s.now - s.tWin) rfl (ite_related (c := s.isStart s.level = true) rfl rfl))

theorem rxWaitRise_alike : (rxWaitRise (s.setBuf m)).Alike (rxWaitRise s) :=
  alike_next (ite_related (c := s.level = true) rfl rfl)

theorem rxSampleDelay_alike : (rxSampleDelay (s.setBuf m)).Alike (rxSampleDelay s) :=
  ite_related (c := s.now - s.tRef < s.cfg.tBit) rfl (ite_related (c := 8 ≤ s.bitcnt) rfl rfl)

theorem rxWaitFall_alike : (rxWaitFall (s.setBuf m)).Alike (rxWaitFall s) :=
  alike_next (ite_related (c := s.level = true) rfl rfl)

/-- The byte received is written to `RXBUF` and is not read there. -/
theorem rxByteDone_alike : (rxByteDone (s.setBuf m)).Alike (rxByteDone s) :=
  ite_related (c := s.rxlen = s.cfg.rxbufMax) rfl (ite_related (c := s.cfg.rxbufMax < s.rxlen) rfl rfl)

theorem rxDoneRule_alike : (rxDoneRule (s.setBuf m)).Alike (rxDoneRule s) :=
  alike_next (ite_related (c := s.rxlen = 0) rfl rfl)

theorem sleepRule_alike : (sleepRule (s.setBuf m)).Alike (sleepRule s) :=
  alike_next (ite_related (c := s.now - s.tRef < s.cfg.tSleep) rfl rfl)

theorem txSettle_alike : (txSettle (s.setBuf m)).Alike (txSettle s) :=
  ite_related (c := s.now - s.tRef < s.cfg.tSettle) rfl
    (loadBit_alike (fun _ _ => by rfl) { s with txidx := 0, txbit := 0 } m)

theorem txBit_alike : (txBit (s.setBuf m)).Alike (txBit s) :=
  ite_related (c := s.now - s.tRef < s.cfg.tBit) rfl
    (ite_related (c := s.txbit + 1 = frameLen s.cfg) rfl
      (loadBit_alike (fun _ _ => by rfl) { s with txbit := s.txbit + 1 } m))

theorem txGap_alike : (txGap (s.setBuf m)).Alike (txGap s) :=
  ite_related (c := s.now - s.tRef < s.cfg.tGap) rfl
    (ite_related (c := s.txidx + 1 = s.txlen) rfl
      (loadBit_alike (fun _ _ => by rfl) { s with txidx := s.txidx + 1, txbit := 0 } m))

theorem transmit_alike : (transmit (s.setBuf m)).Alike (transmit s) := by
  unfold transmit
  rw [show (s.setBuf m).st = s.st from rfl]
  cases s.st
  case txSettle => exact txSettle_alike s m
  case txBit => exact txBit_alike s m
  case txGap => exact txGap_alike s m
  all_goals rfl

/-! ### The rules that read `RXBUF` -/

/-- The operands of a `SET` come with the instruction: the rest of the rule does not read them again. -/
theorem execSet_alike (len : Byte) (power freq10 : Half) (tail : List Byte) :
    (execSet len power freq10 tail (s.setBuf m)).Alike (execSet len power freq10 tail s) := by
  refine radioCall_alike (fun u m => ?_) (s.putSettings _ power) m
  refine radioCall_alike (fun u m => ?_) u m
  refine transact_alike (fun c u m => ?_) u m
  refine diagCall_alike (fun u m => ?_) ((u.commit c.ok).noteSave c.ok) m
  exact alike_next rfl

theorem exec_alike (i : Instr) : Out.Alike (exec i (s.setBuf m)) (exec i s) := by
  cases i with
  | set len power freq10 tail => exact execSet_alike s m len power freq10 tail
  | bind len tail => rfl
  | bindAck => exact transmit_alike s m

theorem rejectMalformed_alike (c : Cause) : (rejectMalformed c (s.setBuf m)).Alike (rejectMalformed c s) := by
  refine diagCall_alike (fun u m => ?_) (s.signal true (.malformedPacket c)) m
  exact alike_next rfl

theorem rejectBuffer_alike (r : Reject) : (rejectBuffer r (s.setBuf m)).Alike (rejectBuffer r s) := by
  cases r with
  | tooShort | wrongAddress => exact rejectMalformed_alike s m _
  | truncatedSet | unrecognised | noSuchByte | notAck => rfl

end

/-- What `DISPATCH` does once the buffer is decoded. -/
def dispatchOn (d : Except Reject Instr) (s : State) : Out :=
  match d with
  | .ok (.set _ _ _ _) => .next (s.goto .setExec)
  | .ok (.bind len tail) => exec (.bind len tail) s
  | .ok .bindAck => exec .bindAck s
  | .error r => rejectBuffer r s

/-- `DISPATCH` does not look at what is blotted out of the instruction. -/
theorem dispatchRule_eq (s : State) : dispatchRule s = dispatchOn ((decodeCommand s.cfg s.buffer).map hideUnread) s := by
  unfold dispatchRule
  rcases decodeCommand s.cfg s.buffer with r | i
  · rfl
  · cases i <;> rfl

theorem dispatchOn_alike (d : Except Reject Instr) (s : State) (m : List Host.Cell) :
    (dispatchOn d (s.setBuf m)).Alike (dispatchOn d s) := by
  rcases d with r | i
  · exact rejectBuffer_alike s m r
  · cases i with
    | set => rfl
    | bind len tail => exact exec_alike s m (.bind len tail)
    | bindAck => exact exec_alike s m .bindAck

theorem setExecRule_eq (s : State) :
    setExecRule s = ((decodeSet s.buffer).map hideUnread).elim (.fault .rxbufOutOfRange) fun i => exec i s := by
  unfold setExecRule
  rcases decodeSet s.buffer with _ | i
  · rfl
  · exact (exec_hideUnread i s).symm

section
variable {s : State} {m : List Host.Cell} (h : SameRead (s.setBuf m).buffer s.buffer)
include h

theorem validateRule_alike : (validateRule (s.setBuf m)).Alike (validateRule s) := by
  unfold validateRule
  rw [validate_sameRead h, show (s.setBuf m).cfg = s.cfg from rfl]
  rcases validate s.cfg s.buffer with _ | r
  · rfl
  · exact rejectBuffer_alike s m r

theorem dispatchRule_alike : (dispatchRule (s.setBuf m)).Alike (dispatchRule s) := by
  rw [dispatchRule_eq, dispatchRule_eq, decodeCommand_sameRead h]
  exact dispatchOn_alike _ s m

theorem setExecRule_alike : (setExecRule (s.setBuf m)).Alike (setExecRule s) := by
  rw [setExecRule_eq, setExecRule_eq, decodeSet_sameRead h]
  rcases (decodeSet s.buffer).map hideUnread with _ | i
  · rw [Option.elim_none, Option.elim_none]
    rfl
  · exact exec_alike s m i

/-! ### The step -/

theorem runRule_alike : (runRule (s.setBuf m)).Alike (runRule s) := by
  unfold runRule
  simp only [transmitRule_eq_transmit]
  rw [show (s.setBuf m).st = s.st from rfl]
  cases s.st
  case bootLoad => exact unlessHung_alike (bootLoad_alike s m)
  case bootApply => exact unlessHung_alike (bootApply_alike s m)
  case bootReport => exact unlessHung_alike (bootReport_alike s m)
  case idle => rfl
  case rxSettle => exact rxSettle_alike s m
  case rxWaitStart => exact rxWaitStart_alike s m
  case rxWaitRise => exact rxWaitRise_alike s m
  case rxSampleDelay => exact rxSampleDelay_alike s m
  case rxWaitFall => exact rxWaitFall_alike s m
  case rxByteDone => exact rxByteDone_alike s m
  case rxDone => exact rxDoneRule_alike s m
  case validate => exact unlessHung_alike (validateRule_alike h)
  case dispatch => exact dispatchRule_alike h
  case setExec => exact unlessHung_alike (setExecRule_alike h)
  case txSettle | txBit | txGap => exact transmit_alike s m
  case sleep => exact sleepRule_alike s m

theorem step_alike : Out.Alike (step (s.setBuf m)) (step s) :=
  ite_related (c := s.resetDue = true) rfl (runRule_alike h)

end

/-- Settles O55: the Validator and the decoder read the length, byte 0 and bytes 2 to 6, and no other rule reads `RXBUF`. -/
theorem unreadBytesDoNotMatter : Obligations.UnreadBytesDoNotMatter := fun _ _ hm => step_alike (sameRead_buffer hm)

end Sys2Proof.Machine
end

section
/-! PROOFS. The encoding of packets (spec 30 R96 to R103): for each decoder, once, the bytes it accepts and what it reads of
them, as an `↔`; from these, that decoding and encoding are inverse and what selects a command. -/

namespace Sys2Proof.Machine

/-! ### The operand bytes -/

/-- `decodeSet` reads the layout of R97: the buffer is two unread bytes, the length byte, the operands and the tail. -/
theorem decodeSet_eq_some_iff {buf : List Byte} {len : Byte} {p f : Half} {tail : List Byte} :
    decodeSet buf = some (.set len p f tail) ↔
      ∃ a t, buf = a :: len :: t :: loByte p :: hiByte p :: loByte f :: hiByte f :: tail := by
  constructor
  · intro h
    unfold decodeSet at h
    split at h
    · injection h with h
      injection h with hlen hp hf htail
      subst hlen hp hf htail
      simp only [loByte_le16, hiByte_le16]
      exact ⟨_, _, rfl⟩
    · cases h
  · rintro ⟨a, t, rfl⟩
    simp only [decodeSet, le16_bytes]

/-- `decodeBind` reads the layout of R98. -/
theorem decodeBind_eq_some_iff {buf : List Byte} {len : Byte} {tail : List Byte} :
    decodeBind buf = some (.bind len tail) ↔ ∃ a t, buf = a :: len :: t :: tail := by
  constructor
  · intro h
    unfold decodeBind at h
    split at h
    · injection h with h
      injection h with hlen htail
      subst hlen htail
      exact ⟨_, _, rfl⟩
    · cases h
  · rintro ⟨a, t, rfl⟩
    rfl

/-- With the seven bytes that R97 lays out, the operands are bytes 3 to 6, little-endian (R100, R101). -/
theorem decodeSet_of_length : ∀ {buf : List Byte} (h : 7 ≤ buf.length),
    decodeSet buf = some (.set buf[1] (le16 buf[3] buf[4]) (le16 buf[5] buf[6]) (buf.drop 7))
  | _ :: _ :: _ :: _ :: _ :: _ :: _ :: _, _ => rfl

theorem decodeBind_of_length : ∀ {buf : List Byte} (h : 3 ≤ buf.length),
    decodeBind buf = some (.bind buf[1] (buf.drop 3))
  | _ :: _ :: _ :: _, _ => rfl

/-- A `SET` has operands exactly when it has seven bytes. -/
theorem exists_decodeSet_iff {buf : List Byte} :
    (∃ len p f tail, decodeSet buf = some (.set len p f tail)) ↔ 7 ≤ buf.length := by
  constructor
  · rintro ⟨len, p, f, tail, h⟩
    obtain ⟨a, t, rfl⟩ := decodeSet_eq_some_iff.1 h
    simp
  · exact fun h => ⟨_, _, _, _, decodeSet_of_length h⟩

theorem exists_decodeBind_iff {buf : List Byte} :
    (∃ len tail, decodeBind buf = some (.bind len tail)) ↔ 3 ≤ buf.length := by
  constructor
  · rintro ⟨len, tail, h⟩
    obtain ⟨a, t, rfl⟩ := decodeBind_eq_some_iff.1 h
    simp
  · exact fun h => ⟨_, _, decodeBind_of_length h⟩

/-! ### The Validator and the Dispatcher's decode -/

/-- The Validator accepts by length and address (R171); with no byte there is no address. -/
theorem validate_eq_none_iff {c : Config} {buf : List Byte} :
    validate c buf = none ↔ c.minPktLen ≤ buf.length ∧ buf[0]? = some c.devAddr := by
  unfold validate
  by_cases hlen : buf.length < c.minPktLen
  · simp [hlen]
  rw [if_neg hlen]
  rcases buf with _ | ⟨a, buf⟩
  · simp
  · by_cases ha : a = c.devAddr
    · simpa [ha] using hlen
    · simp [ha]

/-- Offset 2 selects `SET`, which needs its payload (R180, R182). -/
theorem decodeCommand_eq_set_iff {c : Config} {buf : List Byte} {len : Byte} {p f : Half} {tail : List Byte} :
    decodeCommand c buf = .ok (.set len p f tail) ↔
      buf[2]? = some c.cmdSet ∧ c.setMinPayload ≤ buf.length - 3 ∧ decodeSet buf = some (.set len p f tail) := by
  unfold decodeCommand
  rcases buf[2]? with _ | t
  · simp
  by_cases hs : t = c.cmdSet
  · by_cases hl : c.setMinPayload ≤ buf.length - 3
    · rcases decodeSet buf with _ | i <;> simp [hs, hl]
    · simp [hs, hl]
  · by_cases hb : t = c.cmdBind
    · subst hb
      rcases hd : decodeBind buf with _ | i
      · simp [hs]
      · obtain ⟨_, _, rfl⟩ := decodeBind_some hd
        simp [hs]
    · simp [hs, hb]

/-- Offset 2 selects `BIND`, unless the two commands are the same byte: then it is a `SET`. -/
theorem decodeCommand_eq_bind_iff {c : Config} {buf : List Byte} {len : Byte} {tail : List Byte} :
    decodeCommand c buf = .ok (.bind len tail) ↔
      buf[2]? = some c.cmdBind ∧ c.cmdSet ≠ c.cmdBind ∧ decodeBind buf = some (.bind len tail) := by
  unfold decodeCommand
  rcases buf[2]? with _ | t
  · simp
  by_cases hs : t = c.cmdSet
  · subst hs
    refine iff_of_false ?_ fun ⟨h2, hne, _⟩ => hne (Option.some.inj h2)
    by_cases hl : c.setMinPayload ≤ buf.length - 3
    · rcases hd : decodeSet buf with _ | i
      · simp [hl]
      · obtain ⟨_, _, _, _, rfl⟩ := decodeSet_some hd
        simp [hl]
    · simp [hl]
  · by_cases hb : t = c.cmdBind
    · subst hb
      rcases decodeBind buf with _ | i <;> simp [hs, Ne.symm hs]
    · simp [hs, hb]

/-- `BIND_ACK` is not a command the block decodes (R103). -/
theorem decodeCommand_ne_bindAck (c : Config) (buf : List Byte) : decodeCommand c buf ≠ .ok .bindAck := by
  rcases decodeCommand_cases c buf with ⟨_, _, _, _, hd, _⟩ | ⟨_, _, hd⟩ | hd | ⟨_, hd⟩ | hd <;> simp [hd]

/-- A packet is what the Dispatcher decodes of a buffer that the Validator accepts (R103). -/
theorem decodePacket_eq_ok_iff {c : Config} {buf : List Byte} {i : Instr} :
    decodePacket c buf = .ok i ↔
      (c.minPktLen ≤ buf.length ∧ buf[0]? = some c.devAddr) ∧ decodeCommand c buf = .ok i := by
  rw [← validate_eq_none_iff]
  unfold decodePacket
  rcases validate c buf with _ | r <;> simp

/-! ### Decoded packets and their encodings -/

/-- The buffers that decode to a `SET` are its encodings, long enough to be accepted and to act (R97, R103). -/
theorem decodePacket_eq_set_iff {c : Config} {buf : List Byte} {len : Byte} {p f : Half} {tail : List Byte} :
    decodePacket c buf = .ok (.set len p f tail) ↔
      buf = encode c (.set len p f tail) ∧ c.minPktLen ≤ 7 + tail.length ∧ c.setMinPayload ≤ 4 + tail.length := by
  rw [decodePacket_eq_ok_iff, decodeCommand_eq_set_iff, decodeSet_eq_some_iff]
  constructor
  · rintro ⟨⟨hmin, h0⟩, h2, hpay, a, t, rfl⟩
    cases h0
    cases h2
    simp only [List.length_cons] at hmin hpay
    exact ⟨rfl, by omega, by omega⟩
  · rintro ⟨rfl, hmin, hpay⟩
    have hlen := Laws.EncodedSize.set len p f tail c
    rw [hlen]
    exact ⟨⟨hmin, rfl⟩, rfl, by simp only [Instr.size]; omega, _, _, rfl⟩

/-- The buffers that decode to a `BIND` are its encodings, long enough to be accepted (R98, R103). -/
theorem decodePacket_eq_bind_iff {c : Config} {buf : List Byte} {len : Byte} {tail : List Byte} :
    decodePacket c buf = .ok (.bind len tail) ↔
      buf = encode c (.bind len tail) ∧ c.minPktLen ≤ 3 + tail.length ∧ c.cmdSet ≠ c.cmdBind := by
  rw [decodePacket_eq_ok_iff, decodeCommand_eq_bind_iff, decodeBind_eq_some_iff]
  constructor
  · rintro ⟨⟨hmin, h0⟩, h2, hne, a, t, rfl⟩
    cases h0
    cases h2
    simp only [List.length_cons] at hmin
    exact ⟨rfl, by omega, hne⟩
  · rintro ⟨rfl, hmin, hne⟩
    rw [Laws.EncodedSize.bind len tail c]
    exact ⟨⟨hmin, rfl⟩, rfl, hne, _, _, rfl⟩

theorem decodePacket_ne_bindAck (c : Config) (buf : List Byte) : decodePacket c buf ≠ .ok .bindAck :=
  fun h => decodeCommand_ne_bindAck c buf (decodeCommand_of_decodePacket h)

/-- The transmit registers hold `BIND_ACK` when they hold its bytes (R99). -/
theorem decodeAck_eq_bindAck_iff {c : Config} {bytes : List Byte} :
    decodeAck c bytes = .ok .bindAck ↔ bytes = c.ackBytes := by
  unfold decodeAck
  split_ifs with h <;> simp [h]

/-! ### Obligations -/

/-- Settles O2: the lengths a well-formed instruction has are those its decoder asks for. -/
theorem decodeOfEncodeIsTheInstruction : Obligations.DecodeOfEncodeIsTheInstruction := by
  intro c i hc hi
  cases i with
  | set len p f tail =>
    simp only [Instr.wf, Bool.and_eq_true, decide_eq_true_eq] at hi
    obtain ⟨⟨hmin, hpay⟩, -⟩ := hi
    exact decodePacket_eq_set_iff.2 ⟨rfl, hmin, by omega⟩
  | bind len tail =>
    simp only [Instr.wf, Bool.and_eq_true, decide_eq_true_eq] at hi
    exact decodePacket_eq_bind_iff.2 ⟨rfl, hi.1, ((config_wf_iff c).1 hc).1⟩
  | bindAck => exact decodeAck_eq_bindAck_iff.2 rfl

/-- Settles O3: each command by the layout its decoder reads, and `BIND_ACK` is never decoded from `RXBUF`. -/
theorem encodeOfDecodedPacketIsTheBuffer : Obligations.EncodeOfDecodedPacketIsTheBuffer := by
  intro c buf i h
  cases i with
  | set len p f tail =>
    obtain ⟨hbuf, hmin, -⟩ := decodePacket_eq_set_iff.1 h
    exact ⟨hbuf.symm, rfl, hmin⟩
  | bind len tail =>
    obtain ⟨hbuf, hmin, -⟩ := decodePacket_eq_bind_iff.1 h
    exact ⟨hbuf.symm, rfl, hmin⟩
  | bindAck => exact absurd h (decodePacket_ne_bindAck c buf)

/-- Settles O4: with `MIN_PKT_LEN` 6 and `SET_MIN_PAYLOAD` 5 the operands exist once the length tests have passed (R68). -/
theorem commandIsSelectedByLengthAddressAndType : Obligations.CommandIsSelectedByLengthAddressAndType := by
  refine ⟨fun buf => ?_, fun buf => ?_, fun bytes => decodeAck_eq_bindAck_iff⟩
  · simp only [decodePacket_eq_ok_iff, decodeCommand_eq_set_iff, exists_and_left, exists_decodeSet_iff]
    constructor
    · rintro ⟨⟨-, h0⟩, h2, hpay, hlen⟩
      exact ⟨by omega, h0, h2⟩
    · rintro ⟨hlen, h0, h2⟩
      exact ⟨⟨by omega, h0⟩, h2, by omega, by omega⟩
  · simp only [decodePacket_eq_ok_iff, decodeCommand_eq_bind_iff, exists_and_left, exists_decodeBind_iff]
    constructor
    · rintro ⟨⟨hlen, h0⟩, h2, -, -⟩
      exact ⟨hlen, h0, h2⟩
    · rintro ⟨hlen, h0, h2⟩
      exact ⟨⟨hlen, h0⟩, h2, by decide, by omega⟩

/-- Settles O1: the eight buffers, evaluated. -/
theorem writtenOutPacketsDecode : Obligations.WrittenOutPacketsDecode :=
  ⟨rfl, rfl, rfl, rfl, rfl, rfl, rfl, rfl⟩

/-- Settles O9: the rule of `SET_EXEC` runs what `decodeSet` reads of the buffer, whose bytes are those of `RXBUF`. -/
theorem setOperandsAreAssembledLittleEndian : Obligations.SetOperandsAreAssembledLittleEndian := by
  intro s hst hr hh hlen
  have hbyte (k : Nat) (hk : k < s.buffer.length) : s.buffer[k] = memRead s.rxbuf k := by
    simp [State.buffer]
  have hset := decodeSet_of_length (buf := s.buffer) (by simpa using hlen)
  simp only [hbyte] at hset
  rw [step_of_not_due hr]
  simp only [runRule, hst]
  rw [unlessHung_free hh, setExecRule, hset]
  rfl

/-- Outside its own states the transmitter begins anew (R150). -/
theorem transmit_of_not_transmitting {s : State} (h : s.st.transmitting = false) :
    transmit s = .next s.loadAck.enterTransmit := by
  unfold transmit
  cases hst : s.st
  case txSettle | txBit | txGap => simp [hst, Seq.transmitting] at h
  all_goals rfl

/-- Settles O18: running `BIND_ACK` is running the transmitter. -/
theorem ackBeginsWhereNothingIsSent : Obligations.AckBeginsWhereNothingIsSent :=
  fun _ h => transmit_of_not_transmitting h

end Sys2Proof.Machine
end

section
/-! PROOFS. One evaluation of each state of `RECEIVE` (spec 40 R122 to R127): a lemma per arm of the rule, with `START_DETECT`
edge (92 D5) and samples of one tick (92 D3) where the line is sampled. -/

namespace Sys2Proof.Machine

/-- With `POLL` 1 a sample takes one tick (92 D3). -/
theorem State.sampleTick_eq_tick {s : State} (hp : s.cfg.poll = 1) : s.sampleTick = s.tick := by
  simp [State.sampleTick, State.tick, hp]

/-- With `START_DETECT` edge a start is a sampled 1 followed by a sampled 0 (92 D5). -/
theorem State.isStart_iff {s : State} (he : s.cfg.startDetect = .edge) (v : Bool) :
    s.isStart v = true ↔ s.prev = true ∧ v = false := by
  simp [State.isStart, he]

theorem bitIndex_lt (o : BitOrder) {n : Nat} (h : n < 8) : bitIndex o n < 8 := by
  cases o with
  | lsbFirst => exact h
  | msbFirst => exact Nat.lt_of_le_of_lt (Nat.sub_le 7 n) (by decide)

theorem bitIndex_inj (o : BitOrder) {m n : Nat} (hm : m < 8) (hn : n < 8) (h : bitIndex o m = bitIndex o n) : m = n := by
  cases o with
  | lsbFirst => exact h
  | msbFirst =>
    change 7 - m = 7 - n at h
    omega

theorem polarity_activeHigh {c : Config} (h : c.lineActiveHigh = true) (v : Bool) : polarity c v = v := by
  simp [polarity, h]

/-- Appending puts the byte behind those of the buffer. -/
theorem State.append_buffer {s : State} (h : Memory.wf s.rxbuf = true) (v : Byte) :
    (s.append v).buffer = s.buffer ++ [v] := by
  have hold : ∀ a ∈ List.range s.rxlen, memRead (memWrite s.rxbuf s.rxlen v) a = memRead s.rxbuf a := by
    intro a ha
    rw [memRead_memWrite _ h, if_neg (List.mem_range.1 ha).ne]
  have hnew : memRead (memWrite s.rxbuf s.rxlen v) s.rxlen = v := by rw [memRead_memWrite _ h, if_pos rfl]
  simp only [State.buffer, State.append, List.range_succ, List.map_append, List.map_congr_left hold, List.map_singleton,
    hnew]

section
variable {s : State} (hr : s.resetDue = false)
include hr

/-! ### The rule that runs -/

theorem step_eq_rxSettle (hst : s.st = .rxSettle) : step s = rxSettle s := by
  rw [step_of_not_due hr, runRule, hst]

theorem step_eq_rxWaitStart (hst : s.st = .rxWaitStart) : step s = rxWaitStart s := by
  rw [step_of_not_due hr, runRule, hst]

theorem step_eq_rxWaitRise (hst : s.st = .rxWaitRise) : step s = rxWaitRise s := by
  rw [step_of_not_due hr, runRule, hst]

theorem step_eq_rxSampleDelay (hst : s.st = .rxSampleDelay) : step s = rxSampleDelay s := by
  rw [step_of_not_due hr, runRule, hst]

theorem step_eq_rxWaitFall (hst : s.st = .rxWaitFall) : step s = rxWaitFall s := by
  rw [step_of_not_due hr, runRule, hst]

theorem step_eq_rxByteDone (hst : s.st = .rxByteDone) : step s = rxByteDone s := by
  rw [step_of_not_due hr, runRule, hst]

/-! ### Its arms -/

/-- `RX_SETTLE` opens the window when `T_SETTLE` ticks have passed (R122). -/
theorem step_rxSettle_over (hst : s.st = .rxSettle) (hw : s.cfg.tSettle ≤ s.now - s.tRef) :
    step s = .next { s with tWin := s.now, prev := false, st := .rxWaitStart } := by
  rw [step_eq_rxSettle hr hst, rxSettle, if_neg (Nat.not_lt.2 hw)]

/-- At the close of the window `RX_WAIT_START` gives up without a sample (R123, R130). -/
theorem step_rxWaitStart_closed (hst : s.st = .rxWaitStart) (hw : s.cfg.tRxto ≤ s.now - s.tWin) :
    step s = .next ((s.signal true .transportTimeout).goto .rxDone) := by
  rw [step_eq_rxWaitStart hr hst, rxWaitStart, if_pos hw]

/-- In the window a sampled 1 followed by a sampled 0 opens a byte (R123). -/
theorem step_rxWaitStart_start (hst : s.st = .rxWaitStart) (he : s.cfg.startDetect = .edge) (hp : s.cfg.poll = 1)
    (hw : s.now - s.tWin < s.cfg.tRxto) (hedge : s.prev = true ∧ s.level = false) :
    step s = .next { s.tick with prev := false, shift := 0, bitcnt := 0, st := .rxWaitRise } := by
  rw [step_eq_rxWaitStart hr hst, rxWaitStart, if_neg (Nat.not_le.2 hw),
    if_pos ((State.isStart_iff he _).2 hedge), State.sampleTick_eq_tick hp]

/-- In the window any other sample is only remembered (R123). -/
theorem step_rxWaitStart_remember (hst : s.st = .rxWaitStart) (he : s.cfg.startDetect = .edge) (hp : s.cfg.poll = 1)
    (hw : s.now - s.tWin < s.cfg.tRxto) (hedge : ¬(s.prev = true ∧ s.level = false)) :
    step s = .next { s.tick with prev := s.level } := by
  rw [step_eq_rxWaitStart hr hst, rxWaitStart, if_neg (Nat.not_le.2 hw),
    if_neg (mt (State.isStart_iff he _).1 hedge), State.sampleTick_eq_tick hp]

/-- A rise starts the delay to the bit's sample (R124). -/
theorem step_rxWaitRise_high (hst : s.st = .rxWaitRise) (hp : s.cfg.poll = 1) (hl : s.level = true) :
    step s = .next { s.tick with prev := true, tRef := s.now, st := .rxSampleDelay } := by
  rw [step_eq_rxWaitRise hr hst, rxWaitRise, if_pos hl, State.sampleTick_eq_tick hp]

theorem step_rxWaitRise_low (hst : s.st = .rxWaitRise) (hp : s.cfg.poll = 1) (hl : s.level = false) :
    step s = .next { s.tick with prev := false } := by
  rw [step_eq_rxWaitRise hr hst, rxWaitRise, if_neg (ne_true_of_eq_false hl), State.sampleTick_eq_tick hp]

/-- `T_BIT` ticks after the rise the bit is taken (R125). -/
theorem step_rxSampleDelay_over (hst : s.st = .rxSampleDelay) (hp : s.cfg.poll = 1) (hw : s.cfg.tBit ≤ s.now - s.tRef)
    (hb : s.bitcnt < 8) :
    step s =
      .next
        { s.tick with
          prev := s.level
          shift := setBit s.shift (bitIndex s.cfg.bitOrder s.bitcnt) (polarity s.cfg s.level)
          bitcnt := s.bitcnt + 1
          st := .rxWaitFall } := by
  rw [step_eq_rxSampleDelay hr hst, rxSampleDelay, if_neg (Nat.not_lt.2 hw), if_neg (Nat.not_le.2 hb),
    State.sampleTick_eq_tick hp]

theorem step_rxWaitFall_high (hst : s.st = .rxWaitFall) (hp : s.cfg.poll = 1) (hl : s.level = true) :
    step s = .next { s.tick with prev := true } := by
  rw [step_eq_rxWaitFall hr hst, rxWaitFall, if_pos hl, State.sampleTick_eq_tick hp]

/-- A fall ends the byte after the eighth bit, else the next rise is awaited (R126). -/
theorem step_rxWaitFall_low (hst : s.st = .rxWaitFall) (hp : s.cfg.poll = 1) (hl : s.level = false) :
    step s = .next { s.tick with prev := false, st := if s.bitcnt = 8 then .rxByteDone else .rxWaitRise } := by
  rw [step_eq_rxWaitFall hr hst, rxWaitFall, if_neg (ne_true_of_eq_false hl), State.sampleTick_eq_tick hp]

/-- With room in the buffer `RX_BYTE_DONE` appends, and tests for the end with the length it then has (R127, R128). -/
theorem step_rxByteDone_room (hst : s.st = .rxByteDone) (hroom : s.rxlen < s.cfg.rxbufMax) :
    step s =
      .next
        ((s.append s.shift).goto
          (if s.cfg.termMinLen ≤ s.rxlen + 1 ∧ s.shift = s.cfg.termByte then .rxDone else .rxWaitStart)) := by
  rw [step_eq_rxByteDone hr hst, rxByteDone, if_neg hroom.ne, if_neg (Nat.not_lt.2 hroom.le)]

/-- A full buffer ends the reception (R132). -/
theorem step_rxByteDone_full (hst : s.st = .rxByteDone) (hfull : s.rxlen = s.cfg.rxbufMax) :
    step s = .next (s.goto .rxDone) := by
  rw [step_eq_rxByteDone hr hst, rxByteDone, if_pos hfull]

end

/-! ### Obligations -/

/-- Settles O25: the three arms of `RX_WAIT_START`. -/
theorem startNeedsAFallingEdgeInTheWindow : Obligations.StartNeedsAFallingEdgeInTheWindow := fun _ hst hr he hp =>
  ⟨fun hw => step_rxWaitStart_closed hr hst hw,
    fun hw hprev hl => step_rxWaitStart_start hr hst he hp hw ⟨hprev, hl⟩,
    fun hw hedge => step_rxWaitStart_remember hr hst he hp hw hedge⟩

/-- Settles O26: the two arms of `RX_WAIT_RISE` and of `RX_WAIT_FALL`. -/
theorem riseAndFallAreAwaited : Obligations.RiseAndFallAreAwaited := fun _ hr hp =>
  ⟨fun hst hl => step_rxWaitRise_high hr hst hp hl, fun hst hl => step_rxWaitRise_low hr hst hp hl,
    fun hst hl => step_rxWaitFall_high hr hst hp hl, fun hst hl => step_rxWaitFall_low hr hst hp hl⟩

/-- Settles O28: the write lies behind every byte of the buffer. -/
theorem byteIsAppendedAndMayTerminate : Obligations.ByteIsAppendedAndMayTerminate := by
  intro s hst hr hwf
  refine ⟨fun hroom => ⟨_, step_rxByteDone_room hr hst hroom, ?_, rfl, rfl, fun a ha => ?_, rfl⟩,
    fun hfull => step_rxByteDone_full hr hst hfull⟩
  · exact State.append_buffer hwf s.shift
  · exact (memRead_memWrite _ hwf _ _ _).trans (if_neg ha)

end Sys2Proof.Machine
end

section
/-! PROOFS. Runs of the receiver on a line that stays at one level (spec 40 R122, R130, R131): the settle, the window that
closes, and the two waits without a timeout. -/

namespace Sys2Proof.Machine

/-- A run along a sequence of states, each the next of the one before. -/
theorem run_of_steps {g : Nat → State} {m n : Nat} (hmn : m ≤ n)
    (h : ∀ j, m ≤ j → j < n → step (g j) = .next (g (j + 1))) : (g m).run (n - m) = .next (g n) := by
  induction n, hmn using Nat.le_induction with
  | base => rw [Nat.sub_self, run_zero]
  | succ n hmn ih =>
    rw [Nat.sub_add_comm hmn, run_add (ih fun j hj hjn => h j hj (by omega)) 1,
      run_succ_of_next (h n hmn (Nat.lt_succ_self n)), run_zero]

/-- `n` ticks later, each of them with a sample of `b` that was only remembered. -/
def State.held (s : State) (b : Bool) (n : Nat) : State :=
  { s with now := s.now + n, prev := if n = 0 then s.prev else b }

theorem State.held_succ (s : State) (b : Bool) (n : Nat) : s.held b (n + 1) = { (s.held b n).tick with prev := b } := rfl

theorem State.held_prev_of_pos (s : State) (b : Bool) {n : Nat} (h : 0 < n) : (s.held b n).prev = b := if_neg h.ne'

/-- The line at a level for the next `n` ticks. -/
def State.Steady (s : State) (b : Bool) (n : Nat) : Prop := ∀ t, s.now ≤ t → t < s.now + n → s.levelOn t = b

theorem State.Steady.level {s : State} {b : Bool} {n : Nat} (h : s.Steady b n) {j : Nat} (hj : j < n) :
    (s.held b j).level = b := h (s.now + j) (by omega) (by omega)

/-- If each sample of a steady line is only remembered, that is all that happens. -/
theorem run_held {s : State} {b : Bool} {n : Nat} (h : s.Steady b n)
    (hstep : ∀ j, j < n → (s.held b j).level = b → step (s.held b j) = .next { (s.held b j).tick with prev := b }) :
    s.run n = .next (s.held b n) :=
  run_of_steps (g := s.held b) (Nat.zero_le n) fun j _ hj => hstep j hj (h.level hj)

section
variable {s : State} (hr : s.resets = [])
include hr

/-- `RX_WAIT_RISE` holds while the line is low (R131). -/
theorem run_rxWaitRise_low {n : Nat} (hst : s.st = .rxWaitRise) (hp : s.cfg.poll = 1) (h : s.Steady false n) :
    s.run n = .next (s.held false n) :=
  run_held h fun j _ hl => step_rxWaitRise_low (s := s.held false j) (resetDue_of_nil hr) hst hp hl

/-- `RX_WAIT_FALL` holds while the line is high (R131). -/
theorem run_rxWaitFall_high {n : Nat} (hst : s.st = .rxWaitFall) (hp : s.cfg.poll = 1) (h : s.Steady true n) :
    s.run n = .next (s.held true n) :=
  run_held h fun j _ hl => step_rxWaitFall_high (s := s.held true j) (resetDue_of_nil hr) hst hp hl

/-- The settle only lets its ticks pass (R122). -/
theorem run_rxSettle {k : Nat} (hst : s.st = .rxSettle) (href : s.tRef = s.now) (hk : k ≤ s.cfg.tSettle) :
    s.run k = .next (s.elapse k) := by
  have hwait : s.waitTicks = s.cfg.tSettle := by simp [State.waitTicks, hst]
  exact run_wait s k fun j hj => step_elapse hr href (by omega)

/-- The state in which the window opens at the end of the settle (R122, R123). -/
theorem run_rxSettle_over (hst : s.st = .rxSettle) (href : s.tRef = s.now) :
    s.run (s.cfg.tSettle + 1) =
      .next
        { s with
          now := s.now + s.cfg.tSettle
          tWin := s.now + s.cfg.tSettle
          prev := false
          st := .rxWaitStart } := by
  rw [run_add (run_rxSettle hr hst href le_rfl) 1]
  exact run_succ_of_next (step_rxSettle_over (s := s.elapse s.cfg.tSettle) (resetDue_of_nil hr) hst (elapse_over s href)) 0

/-- A window just opened on a steady line: the first sample follows a `PREV` of 0, every later one a sample of the same level,
so none is a falling edge (R123, R130). -/
theorem run_rxWaitStart_steady {b : Bool} {n : Nat} (hst : s.st = .rxWaitStart) (hp : s.cfg.poll = 1)
    (he : s.cfg.startDetect = .edge) (hwin : s.tWin = s.now) (hprev : s.prev = false) (hn : n ≤ s.cfg.tRxto)
    (h : s.Steady b n) : s.run n = .next (s.held b n) := by
  refine run_held h fun j hj hl => ?_
  have hw : (s.held b j).now - (s.held b j).tWin < s.cfg.tRxto := by
    change s.now + j - s.tWin < _
    omega
  have hedge : ¬((s.held b j).prev = true ∧ (s.held b j).level = false) := by
    rw [hl]
    rcases Nat.eq_zero_or_pos j with rfl | hj
    · simp [State.held, hprev]
    · rw [s.held_prev_of_pos b hj]
      simp
  exact (step_rxWaitStart_remember (s := s.held b j) (resetDue_of_nil hr) hst he hp hw hedge).trans (by rw [hl])

end

/-- Where the window opens after `IDLE` has entered the receive (R121, R122). -/
def State.windowOpen (s : State) : State :=
  { s.enterReceive with
    now := s.now + s.cfg.tSettle
    tWin := s.now + s.cfg.tSettle
    prev := false
    st := .rxWaitStart }

section
variable {s : State} (hst : s.st = .idle) (hr : s.resets = [])
include hst hr

/-- From `IDLE`, during the settle. -/
theorem run_idle_settle {k : Nat} (hk : k ≤ s.cfg.tSettle) : s.run (k + 1) = .next (s.enterReceive.elapse k) := by
  rw [run_succ_of_next (step_idle (resetDue_of_nil hr) hst)]
  exact run_rxSettle (s := s.enterReceive) hr rfl rfl hk

/-- From `IDLE`, during the window. -/
theorem run_idle_window {b : Bool} (hp : s.cfg.poll = 1) (he : s.cfg.startDetect = .edge)
    (h : s.windowOpen.Steady b s.cfg.tRxto) {k : Nat} (hk : k ≤ s.cfg.tRxto) :
    s.run (s.cfg.tSettle + 2 + k) = .next (s.windowOpen.held b k) := by
  have hopen : s.run (s.cfg.tSettle + 2) = .next s.windowOpen := by
    rw [run_succ_of_next (step_idle (resetDue_of_nil hr) hst)]
    exact run_rxSettle_over (s := s.enterReceive) hr rfl rfl
  rw [run_add hopen k]
  exact run_rxWaitStart_steady (s := s.windowOpen) hr rfl hp he rfl rfl hk fun t ht hlt => h t ht (by omega)

end

/-! ### Obligations -/

/-- Settles O24: the wait of the settle, then the window. -/
theorem receiveSettleLastsExactly : Obligations.ReceiveSettleLastsExactly := fun _ hst hr href =>
  ⟨fun _ hk => run_rxSettle hr hst href hk, run_rxSettle_over hr hst href⟩

/-- Settles O30: neither wait has a timeout. -/
theorem stuckLineHangs : Obligations.StuckLineHangs := fun _ _ hr hp =>
  ⟨fun hst h => run_rxWaitRise_low hr hst hp h, fun hst h => run_rxWaitFall_high hr hst hp h⟩

/-- Settles O29: one evaluation of `IDLE`, the settle and its end, the window, and the timeout. -/
theorem silentLineTimesOut : Obligations.SilentLineTimesOut := by
  intro s b hst hr hp he hpos hline
  have hwindow : ∀ {k}, k ≤ s.cfg.tRxto → s.run (s.cfg.tSettle + 2 + k) = .next (s.windowOpen.held b k) :=
    run_idle_window hst hr hp he hline
  constructor
  · intro j hj
    by_cases hsettle : j ≤ s.cfg.tSettle + 1
    · cases j with
      | zero => exact ⟨s, rfl, by simp [hst]⟩
      | succ k => exact ⟨_, run_idle_settle hst hr (by omega), Seq.noConfusion⟩
    · obtain ⟨k, rfl⟩ := Nat.exists_eq_add_of_le (show s.cfg.tSettle + 2 ≤ j by omega)
      exact ⟨_, hwindow (by omega), Seq.noConfusion⟩
  · have hclosed : s.cfg.tRxto ≤ (s.windowOpen.held b s.cfg.tRxto).now - (s.windowOpen.held b s.cfg.tRxto).tWin :=
      (Nat.add_sub_cancel_left ..).ge
    have hstep := step_rxWaitStart_closed (s := s.windowOpen.held b s.cfg.tRxto) (resetDue_of_nil hr) rfl hclosed
    rw [show s.cfg.tSettle + s.cfg.tRxto + 3 = s.cfg.tSettle + 2 + s.cfg.tRxto + 1 by omega, run_add (hwindow le_rfl) 1,
      run_succ_of_next hstep, run_zero]
    simp [State.held, hpos.ne', State.windowOpen, State.enterReceive, State.signal, State.goto]

end Sys2Proof.Machine
end

section
/-! PROOFS. A bit and a byte of the line (spec 40 R124 to R126, R133): the run from a rise to the bit's sample, from one bit to
the next, and through the eight of them. -/

namespace Sys2Proof.Machine

/-- `u` is `s` but for what the receiver writes within a byte: `ST`, the time, `PREV`, `SHIFT`, `BITCNT` and `T_REF`. -/
def State.ByteWrites (s u : State) : Prop :=
  { u with st := s.st, now := s.now, bitcnt := s.bitcnt, prev := s.prev, shift := s.shift, tRef := s.tRef } = s

/-- A rise in this tick has been seen (R124); its tick is still to pass. -/
def State.risen (s : State) : State := { s with prev := true, tRef := s.now, st := .rxSampleDelay }

/-- After the bit that a rise in this tick announces: the level `T_BIT` ticks on is in `SHIFT` (R125). -/
def State.takeBit (s : State) : State :=
  { s with
    now := s.now + s.cfg.tBit + 1
    tRef := s.now
    prev := s.levelOn (s.now + s.cfg.tBit)
    shift := setBit s.shift (bitIndex s.cfg.bitOrder s.bitcnt) (polarity s.cfg (s.levelOn (s.now + s.cfg.tBit)))
    bitcnt := s.bitcnt + 1
    st := .rxWaitFall }

/-- A bit takes the tick of the rise, the delay and the tick of the sample; the line in between is not looked at (R125). -/
theorem run_takeBit {s : State} (hst : s.st = .rxWaitRise) (hr : s.resets = []) (hp : s.cfg.poll = 1) (hbit : 0 < s.cfg.tBit)
    (hb : s.bitcnt < 8) (hl : s.level = true) : s.run (s.cfg.tBit + 1) = .next s.takeBit := by
  have hrise : step s = .next (s.risen.elapse 1) := step_rxWaitRise_high (resetDue_of_nil hr) hst hp hl
  have hdelay : (s.risen.elapse 1).run (s.cfg.tBit - 1) = .next (s.risen.elapse s.cfg.tBit) :=
    run_of_steps (g := s.risen.elapse) hbit fun _ _ hj => step_elapse (s := s.risen) hr rfl hj
  have hsample : step (s.risen.elapse s.cfg.tBit) = .next s.takeBit :=
    step_rxSampleDelay_over (s := s.risen.elapse s.cfg.tBit) (resetDue_of_nil hr) rfl hp (elapse_over s.risen rfl) hb
  rw [run_succ_of_next hrise, ← Nat.sub_add_cancel hbit, run_add hdelay 1, run_succ_of_next hsample, run_zero]

/-- After the bit whose rise and fall these are (R126). -/
def State.afterBit (s : State) (rise fall : Nat) : State :=
  { ({ s with now := rise } : State).takeBit with
    now := fall + 1
    prev := false
    st := if s.bitcnt + 1 = 8 then .rxByteDone else .rxWaitRise }

theorem State.afterBit_shift (s : State) (rise fall : Nat) :
    (s.afterBit rise fall).shift =
      setBit s.shift (bitIndex s.cfg.bitOrder s.bitcnt) (polarity s.cfg (s.levelOn (rise + s.cfg.tBit))) := rfl

/-- One bit on the line `L` as R133 describes it: low from `start` to the rise, and after the sample `d` ticks later high until
the fall. -/
structure Pulse (L : Nat → Bool) (d start rise fall : Nat) : Prop where
  start_le : start ≤ rise
  low : ∀ t, start ≤ t → t < rise → L t = false
  rises : L rise = true
  sampled : rise + d + 1 ≤ fall
  high : ∀ t, rise + d + 1 ≤ t → t < fall → L t = true
  falls : L fall = false

theorem reaches_afterBit {s : State} {rise fall : Nat} (hst : s.st = .rxWaitRise) (hr : s.resets = []) (hp : s.cfg.poll = 1)
    (hbit : 0 < s.cfg.tBit) (hb : s.bitcnt < 8) (h : Pulse s.levelOn s.cfg.tBit s.now rise fall) :
    s.Reaches (s.afterBit rise fall) := by
  obtain ⟨hstart, hlow, hrise, hsampled, hhigh, hfall⟩ := h
  obtain ⟨n, rfl⟩ := Nat.exists_eq_add_of_le hstart
  obtain ⟨m, rfl⟩ := Nat.exists_eq_add_of_le hsampled
  have hwait : s.Reaches (s.held false n) := ⟨n, run_rxWaitRise_low hr hst hp hlow⟩
  have htake : (s.held false n).Reaches (s.held false n).takeBit :=
    ⟨_, run_takeBit (s := s.held false n) hst hr hp hbit hb hrise⟩
  have hhold : (s.held false n).takeBit.Reaches ((s.held false n).takeBit.held true m) :=
    ⟨m, run_rxWaitFall_high (s := (s.held false n).takeBit) hr rfl hp hhigh⟩
  have hend : step ((s.held false n).takeBit.held true m) =
      .next (s.afterBit (s.now + n) (s.now + n + s.cfg.tBit + 1 + m)) :=
    step_rxWaitFall_low (s := (s.held false n).takeBit.held true m) (resetDue_of_nil hr) rfl hp hfall
  exact hwait.trans (htake.trans (hhold.trans (.of_step hend)))

/-- After the first `k` bits of a byte with the rises `r` and the falls `f`. -/
def State.afterBits (s : State) (r f : Nat → Nat) : Nat → State
  | 0 => s
  | k + 1 => (s.afterBits r f k).afterBit (r k) (f k)

theorem State.afterBits_writes (s : State) (r f : Nat → Nat) : ∀ k, s.ByteWrites (s.afterBits r f k)
  | 0 => rfl
  | k + 1 => s.afterBits_writes r f k

section
variable {s u : State} (h : s.ByteWrites u)
include h

/-- What does not read the registers of `ByteWrites` is the same in both states. -/
theorem State.ByteWrites.same {α : Type} (g : State → α)
    (hg : g { u with st := s.st, now := s.now, bitcnt := s.bitcnt, prev := s.prev, shift := s.shift, tRef := s.tRef } = g u) :
    g u = g s := by
  have hw : _ = s := h
  rw [← hg, hw]

theorem State.ByteWrites.cfg : u.cfg = s.cfg := h.same State.cfg rfl

theorem State.ByteWrites.resets : u.resets = s.resets := h.same State.resets rfl

theorem State.ByteWrites.levelOn : u.levelOn = s.levelOn := h.same State.levelOn rfl

end

section
variable {s : State} (hb : s.bitcnt = 0) (r f : Nat → Nat)
include hb

theorem State.afterBits_bitcnt (k : Nat) : (s.afterBits r f k).bitcnt = k := by
  induction k with
  | zero => exact hb
  | succ k ih => exact congrArg (· + 1) ih

/-- Before the eighth bit the next rise is awaited. -/
theorem State.afterBits_st (hst : s.st = .rxWaitRise) {k : Nat} (hk : k < 8) : (s.afterBits r f k).st = .rxWaitRise := by
  cases k with
  | zero => exact hst
  | succ k => exact if_neg (by rw [s.afterBits_bitcnt hb]; omega)

/-- Each bit taken is the level `T_BIT` ticks after its rise (R125, R64): a later bit goes to another place. -/
theorem State.afterBits_shift {k : Nat} (hk : k ≤ 8) {i : Nat} (hi : i < k) :
    (s.afterBits r f k).shift.getLsbD (bitIndex s.cfg.bitOrder i) = polarity s.cfg (s.levelOn (r i + s.cfg.tBit)) := by
  induction k with
  | zero => exact absurd hi (Nat.not_lt_zero i)
  | succ k ih =>
    have hw := s.afterBits_writes r f k
    have hset : (s.afterBits r f (k + 1)).shift = setBit (s.afterBits r f k).shift (bitIndex s.cfg.bitOrder k)
        (polarity s.cfg (s.levelOn (r k + s.cfg.tBit))) := by
      rw [State.afterBits, State.afterBit_shift, hw.cfg, hw.levelOn, s.afterBits_bitcnt hb]
    rw [hset, setBit_getLsbD _ _ _ _ (bitIndex_lt _ (by omega))]
    rcases Nat.lt_succ_iff_lt_or_eq.1 hi with hlt | rfl
    · rw [if_neg fun e => hlt.ne (bitIndex_inj _ (by omega) (by omega) e)]
      exact ih (by omega) hlt
    · exact if_pos rfl

/-- Eight pulses, each from where the one before ended, take the receiver through the byte (R133). -/
theorem reaches_afterBits (hst : s.st = .rxWaitRise) (hr : s.resets = []) (hp : s.cfg.poll = 1) (hbit : 0 < s.cfg.tBit)
    (h : ∀ k, k < 8 → Pulse s.levelOn s.cfg.tBit (s.afterBits r f k).now (r k) (f k)) {k : Nat} (hk : k ≤ 8) :
    s.Reaches (s.afterBits r f k) := by
  induction k with
  | zero => exact .refl s
  | succ k ih =>
    have hw := s.afterBits_writes r f k
    refine (ih (by omega)).trans (reaches_afterBit (s.afterBits_st hb r f hst (by omega)) ?_ ?_ ?_ ?_ ?_)
    · rw [hw.resets, hr]
    · rw [hw.cfg, hp]
    · rw [hw.cfg]; exact hbit
    · rw [s.afterBits_bitcnt hb]; omega
    · rw [hw.levelOn, hw.cfg]; exact h k (by omega)

end

/-! ### Obligations -/

/-- Settles O27: the run from the rise to the bit's sample. -/
theorem bitIsTheLevel58TicksAfterTheRise : Obligations.BitIsTheLevel58TicksAfterTheRise := by
  intro s o hst hr hcfg hb hl
  have hbit : s.cfg.tBit = 58 := by rw [hcfg]
  have hrun := run_takeBit hst hr (by rw [hcfg]) (by rw [hbit]; decide) hb hl
  have ho : s.cfg.bitOrder = o := by rw [hcfg]
  have hpol : s.cfg.lineActiveHigh = true := by rw [hcfg]
  rw [hbit] at hrun
  refine ⟨s.takeBit, hrun, rfl, ?_, rfl, ?_, fun j => ?_, rfl⟩
  · simp only [State.takeBit, hbit]
  · simp only [State.takeBit, hbit]
  · simp only [State.takeBit, hbit, ho, polarity_activeHigh hpol]
    exact setBit_getLsbD _ _ _ _ (bitIndex_lt o hb)

/-- Settles O31: the rises and falls of R133 are eight pulses, the first from the present tick and each other from the tick
after the fall before. -/
theorem receivedByteIsTheLevelsAfterTheRises : Obligations.ReceivedByteIsTheLevelsAfterTheRises := by
  intro s r f hst hb hr hcfg hstart hlow hnext hrise hfall
  have hbit : s.cfg.tBit = 58 := by rw [hcfg]
  have hpulse : ∀ k, k < 8 → Pulse s.levelOn s.cfg.tBit (s.afterBits r f k).now (r k) (f k) := by
    intro k hk
    obtain ⟨hsampled, hfalls, hhigh⟩ := hfall k hk
    rw [hbit]
    cases k with
    | zero => exact ⟨hstart, hlow, hrise 0 hk, hsampled, hhigh, hfalls⟩
    | succ k =>
      obtain ⟨hle, hgap⟩ := hnext k (by omega)
      exact ⟨hle, hgap, hrise (k + 1) hk, hsampled, hhigh, hfalls⟩
  obtain ⟨n, hn⟩ := reaches_afterBits hb r f hst hr (by rw [hcfg]) (by rw [hcfg]; decide) hpulse le_rfl
  refine ⟨n, _, hn, ?_, rfl, s.afterBits_bitcnt hb r f 8, fun k hk => ?_, s.afterBits_writes r f 8⟩
  · exact if_pos (congrArg (· + 1) (s.afterBits_bitcnt hb r f 7))
  · have hshift := s.afterBits_shift hb r f le_rfl hk
    rw [hcfg] at hshift
    exact hshift.trans (polarity_activeHigh rfl _)

end Sys2Proof.Machine
end

section
/-! PROOFS. One evaluation of `BIND_ACK` in each state of the transmitter, with the framing of D8 (spec 41 R151 to R153). -/

namespace Sys2Proof.Machine

/-- Running `BIND_ACK` is one evaluation of the transmitter's rule (R150). -/
theorem exec_bindAck (s : State) : exec .bindAck s = transmit s := rfl

section
variable {s : State}

theorem transmit_of_txSettle (h : s.st = .txSettle) : transmit s = txSettle s := by simp [transmit, h]

theorem transmit_of_txBit (h : s.st = .txBit) : transmit s = txBit s := by simp [transmit, h]

theorem transmit_of_txGap (h : s.st = .txGap) : transmit s = txGap s := by simp [transmit, h]

end

/-- Settles O15: the wait, and the end of the settle. -/
theorem ackFirstBitFollowsTheSettle : Obligations.AckFirstBitFollowsTheSettle := by
  intro s hst hf hp
  rw [exec_bindAck, transmit_of_txSettle hst]
  refine ⟨fun hw => if_pos hw, fun hw => ?_⟩
  rw [txSettle_over hf hp hw, s.ackLevel_eq (by omega)]

/-- Settles O16: the wait, the next bit, and the end of the byte. -/
theorem ackBitsFollowEachOther : Obligations.AckBitsFollowEachOther := by
  intro s hst hf hp hi _
  rw [exec_bindAck, transmit_of_txBit hst]
  refine ⟨fun hw => if_pos hw, fun hw hb => ?_, fun hw hb => txBit_over hf hw hb⟩
  rw [txBit_next hf hp hw hi hb, s.ackLevel_eq hi]

/-- Settles O17: the wait, the end of the packet, and the next byte. -/
theorem ackBytesFollowEachOther : Obligations.AckBytesFollowEachOther := by
  intro s hst hf hp
  rw [exec_bindAck, transmit_of_txGap hst]
  refine ⟨fun hw => if_pos hw, fun hw hlast => txGap_over hw hlast, fun hw hne hi => ?_⟩
  rw [txGap_next hf hp hw hne hi, s.ackLevel_eq hi]

end Sys2Proof.Machine
end

section
/-! PROOFS. Runs none of whose evaluations writes `DIR` (spec 10 R25): the acknowledgement whatever `DIR` is, and the sleep
after it, so that a `BIND` holds the line without a break (41 R154, 46 R234, 70 R292). -/

namespace Sys2Proof.Machine

/-! ### Runs that keep the direction -/

/-- An evaluation that leaves `DIR` as it is. -/
def State.DirStep (s t : State) : Prop := step s = .next t ∧ t.dir = s.dir

/-- Some number of such evaluations leads from `s` to `u`. -/
def State.Holds (s u : State) : Prop := Relation.ReflTransGen State.DirStep s u

theorem State.Holds.trans {s u v : State} (h : s.Holds u) (h' : u.Holds v) : s.Holds v := Relation.ReflTransGen.trans h h'

/-- As a run: it ends in `u`, and `DIR` is the same after each of its evaluations. -/
theorem State.Holds.run {s u : State} (h : s.Holds u) :
    ∃ k, s.run k = .next u ∧ ∀ j v, j ≤ k → s.run j = .next v → v.dir = s.dir := by
  induction h using Relation.ReflTransGen.head_induction_on with
  | refl =>
    refine ⟨0, rfl, fun j v hj hv => ?_⟩
    rw [Nat.le_zero.1 hj] at hv
    injection hv with hv
    rw [hv]
  | @head s t hst _ ih =>
    obtain ⟨hstep, hdir⟩ := hst
    obtain ⟨k, hk, hkeep⟩ := ih
    refine ⟨k + 1, (run_succ_of_next hstep k).trans hk, fun j v hj hv => ?_⟩
    cases j with
    | zero =>
      injection hv with hv
      rw [hv]
    | succ j => exact (hkeep j v (Nat.le_of_succ_le_succ hj) (run_succ_of_next hstep j ▸ hv)).trans hdir

/-- A state that has just set `T_REF` waits, and then the next evaluation acts. -/
theorem holds_of_wait {s u : State} (hr : s.resets = []) (href : s.tRef = s.now)
    (h : step (s.elapse s.waitTicks) = .next u) (hdir : u.dir = s.dir) : s.Holds u := by
  have wait : ∀ d, d ≤ s.waitTicks → s.Holds (s.elapse d) := by
    intro d hd
    induction d with
    | zero => exact .refl
    | succ d ih => exact (ih (by omega)).tail ⟨step_elapse hr href hd, rfl⟩
  exact (wait _ le_rfl).tail ⟨h, hdir⟩

/-- The sleep is over (R234). -/
theorem step_sleep_over {s : State} (hr : s.resets = []) (hst : s.st = .sleep) (hw : s.cfg.tSleep ≤ s.now - s.tRef) :
    step s = .next (s.goto .idle) := by
  rw [step_of_nil s hr]
  simp only [runRule, hst, sleepRule, if_neg (Nat.not_lt.2 hw)]

/-! ### The acknowledgement -/

/-- `TRANSMIT` begins as in `State.Sends`, but whatever `DIR` is: no rule reads it. -/
structure State.Begins (s : State) : Prop where
  st : s.st = .txSettle
  tRef : s.tRef = s.now
  resets : s.resets = []
  txlen : s.txlen = 4
  d8 : s.cfg.txFraming = {}
  polarity : s.cfg.lineActiveHigh = true

section
variable {s : State} (h : s.Begins)
include h

/-- A phase is held as long as it waits, and ends in what the transmitter's rule then does. -/
theorem State.Begins.holds_of_transmit {u v : State} {n : Nat} (hr : u.resets = s.resets) (href : u.tRef = u.now)
    (hn : u.waitTicks = n) (ht : u.st.transmitting = true) (hdir : v.dir = u.dir)
    (hv : transmit (u.elapse n) = .next v) : u.Holds v := by
  have hru : u.resets = [] := hr.trans h.resets
  exact holds_of_wait hru href (by rw [hn, step_transmitting (s := u.elapse n) hru ht, hv]) hdir

theorem State.Begins.holds_firstBit : s.Holds (s.atBit 0 0) := by
  refine h.holds_of_transmit (n := s.cfg.tSettle) rfl h.tRef (by simp [State.waitTicks, h.st]) (by rw [h.st]; rfl) rfl ?_
  exact (transmit_of_txSettle (s := s.elapse s.cfg.tSettle) h.st).trans
    (txSettle_over (s := s.elapse s.cfg.tSettle) h.d8 h.polarity (elapse_over s h.tRef))

/-- The bits of a byte follow each other up to the gap (R152). -/
theorem State.Begins.holds_byte {j : Nat} (hj : j < 4) : (s.atBit j 0).Holds (s.atGap j) := by
  have bits : ∀ n, n < 8 → (s.atBit j 0).Holds (s.atBit j n) := by
    intro n hn
    induction n with
    | zero => exact .refl
    | succ n ih =>
      refine (ih (by omega)).trans (h.holds_of_transmit (n := s.cfg.tBit) rfl rfl rfl rfl rfl ?_)
      refine (txBit_next (s := (s.atBit j n).elapse s.cfg.tBit) h.d8 h.polarity (elapse_over _ rfl) hj
        (Nat.lt_of_succ_lt_succ hn)).trans ?_
      simp only [State.atBit, State.elapse, bitStart_succ, Nat.add_assoc]
      rfl
  refine (bits 7 (by omega)).trans (h.holds_of_transmit (n := s.cfg.tBit) rfl rfl rfl rfl rfl ?_)
  refine (txBit_over (s := (s.atBit j 7).elapse s.cfg.tBit) h.d8 (elapse_over _ rfl) rfl).trans ?_
  simp only [State.atBit, State.atGap, State.elapse, bitStart_succ s.cfg j 7, Nat.add_assoc]

/-- The bytes follow each other (R153). -/
theorem State.Begins.holds_atGap {j : Nat} (hj : j < 4) : s.Holds (s.atGap j) := by
  induction j with
  | zero => exact h.holds_firstBit.trans (h.holds_byte hj)
  | succ j ih =>
    have hne : j + 1 ≠ s.txlen := by
      rw [h.txlen]
      omega
    have hnext : (s.atGap j).Holds (s.atBit (j + 1) 0) := by
      refine h.holds_of_transmit (n := s.cfg.tGap) rfl rfl rfl rfl rfl ?_
      refine (txGap_next (s := (s.atGap j).elapse s.cfg.tGap) h.d8 h.polarity (elapse_over _ rfl) hne hj).trans ?_
      simp only [State.atBit, State.atGap, State.elapse, bitStart_next_byte, Nat.add_assoc]
      rfl
    exact ((ih (by omega)).trans hnext).trans (h.holds_byte hj)

/-- The gap after the last byte ends in the sleep (R153). -/
theorem State.Begins.holds_atSleep : s.Holds s.atSleep := by
  refine (h.holds_atGap (j := 3) (by omega)).trans (h.holds_of_transmit (n := s.cfg.tGap) rfl rfl rfl rfl rfl ?_)
  refine (txGap_over (s := (s.atGap 3).elapse s.cfg.tGap) (elapse_over _ rfl) h.txlen.symm).trans ?_
  simp only [State.atGap, State.atSleep, State.elapse, bitStart_next_byte s.cfg 3, Nat.add_assoc]

/-- After the sleep the block is at `IDLE`, the line not yet released (R234). -/
theorem State.Begins.holds_idle : s.Holds ((s.atSleep.elapse s.cfg.tSleep).goto .idle) :=
  h.holds_atSleep.trans (holds_of_wait (s := s.atSleep) h.resets rfl
    (step_sleep_over (s := s.atSleep.elapse s.cfg.tSleep) h.resets rfl (elapse_over s.atSleep rfl)) rfl)

end

/-- The whole packet takes the settle and four bytes with their gaps (R154). -/
theorem bitStart_end (c : Config) : bitStart c 4 0 = c.tSettle + 4 * (8 * c.tBit + c.tGap) := by
  rw [bitStart, Nat.mul_zero, Nat.add_zero, Nat.mul_comm _ 4]

/-! ### Obligations -/

/-- Settles O19: the phases of the acknowledgement, from the entry of `TRANSMIT` to the sleep. -/
theorem ackTakes12256Ticks : Obligations.AckTakes12256Ticks := by
  intro s hst href hr hlen hf hp
  have h : s.Begins := ⟨hst, href, hr, hlen, hf, hp⟩
  obtain ⟨k, hk, -⟩ := h.holds_atSleep.run
  refine ⟨⟨k, hk.trans ?_⟩, fun hcfg => ?_⟩
  · rw [State.atSleep, bitStart_end, s.ackLevel_eq (by omega)]
  · rw [hcfg]
    rfl

/-- Settles O20: the block gets to the beginning of the bit, and from there waits. -/
theorem ackBitScheduleIsTheWaveform : Obligations.AckBitScheduleIsTheWaveform := by
  intro s hst href hr hdir hlen hf hp j n d hj hn hd
  have h : s.Sends := ⟨hst, href, hr, hdir, hlen, hf, hp⟩
  obtain ⟨k, hk⟩ := (h.reaches_atBit hj hn).trans (reaches_elapse (s := s.atBit j n) hr rfl hd.le)
  exact ⟨k, _, hk, rfl, rfl, rfl, Nat.add_assoc .., decide_eq_true hdir, s.ackLevel_eq hj n⟩

/-- Settles O21: the dispatch enters `TRANSMIT`, and from there to `IDLE` every evaluation keeps the direction. -/
theorem bindHoldsTheLineUntilIdle : Obligations.BindHoldsTheLineUntilIdle := by
  intro s l tl hst hr hf hp hd
  have hbind := step_dispatch_bind (resetDue_of_nil hr) hst hd
  have h : s.loadAck.enterTransmit.Begins := ⟨rfl, rfl, hr, rfl, hf, hp⟩
  obtain ⟨k, hk, hkeep⟩ := h.holds_idle.run
  refine ⟨⟨k + 1, _, (run_succ_of_next hbind k).trans hk, rfl, ?_, rfl, rfl, rfl, rfl, rfl, fun j u hj hjk hu => ?_⟩,
    fun hcfg => ?_⟩
  · show s.now + bitStart s.cfg 4 0 + s.cfg.tSleep = _
    rw [bitStart_end, Nat.add_assoc]
  · obtain ⟨i, rfl⟩ := Nat.exists_eq_add_of_le' hj
    rw [run_succ_of_next hbind] at hu
    exact decide_eq_true (hkeep i u (Nat.le_of_succ_le_succ hjk) hu)
  · rw [hcfg]
    exact ⟨rfl, rfl⟩

end Sys2Proof.Machine
end

section
/-! PROOFS. The Validator (spec 42 R171): its three verdicts on a buffer, the evaluation of `VALIDATE` for each, and the run of
a packet from there through `DISPATCH` to its command (43 R180, R181, R183). -/

namespace Sys2Proof.Machine

/-! ### The verdicts that reject -/

/-- The length test comes first (R171): nothing else makes a buffer too short. -/
theorem validate_eq_tooShort_iff {c : Config} {buf : List Byte} :
    validate c buf = some .tooShort ↔ buf.length < c.minPktLen := by
  unfold validate
  by_cases hlen : buf.length < c.minPktLen
  · simp [hlen]
  rw [if_neg hlen]
  refine iff_of_false ?_ hlen
  rcases buf with _ | ⟨a, buf⟩
  · simp
  · by_cases ha : a = c.devAddr <;> simp [ha]

/-- The address is looked at once the buffer is long enough (R171). -/
theorem validate_eq_wrongAddress_iff {c : Config} {buf : List Byte} :
    validate c buf = some .wrongAddress ↔ c.minPktLen ≤ buf.length ∧ ∃ a, buf[0]? = some a ∧ a ≠ c.devAddr := by
  unfold validate
  by_cases hlen : buf.length < c.minPktLen
  · simp [hlen]
  rw [if_neg hlen]
  rcases buf with _ | ⟨a, buf⟩
  · simp
  · by_cases ha : a = c.devAddr
    · simp [ha]
    · simpa [ha] using hlen

/-- A rejected buffer costs the block its condition, one diagnostic and the sleep (R171, R204). -/
theorem rejectMalformed_calm {s : State} (h : s.Calm) (c : Cause) :
    rejectMalformed c s =
      .next
        { s with
          now := s.now + (s.callAt 0).cost
          tRef := s.now + (s.callAt 0).cost
          st := .sleep
          calls := s.calls.drop 1
          callNo := s.callNo + 1
          trace := s.trace ++ [(s.now, .signal (.malformedPacket c)), (s.now, .diag .malformed)] } := by
  have htrace : s.trace ++ [(s.now, .signal (.malformedPacket c)), (s.now, .diag .malformed)] =
      s.trace ++ [(s.now, .signal (.malformedPacket c))] ++ [(s.now, .diag .malformed)] := by simp
  rw [rejectMalformed, diagCall_calm (h.signal true _), htrace]
  rfl

/-! ### The evaluations from `VALIDATE` to the command -/

section
variable {s : State}

theorem step_eq_validateRule (hr : s.resetDue = false) (hst : s.st = .validate) (hh : s.hung = none) :
    step s = validateRule s := by
  rw [step_of_not_due hr, runRule, hst]
  exact unlessHung_free hh validateRule

theorem step_validate_reject {r : Reject} (hr : s.resetDue = false) (hst : s.st = .validate) (hh : s.hung = none)
    (hv : validate s.cfg s.buffer = some r) : step s = rejectBuffer r s := by
  rw [step_eq_validateRule hr hst hh, validateRule, hv]

theorem step_validate_accept (hr : s.resetDue = false) (hst : s.st = .validate) (hh : s.hung = none)
    (hv : validate s.cfg s.buffer = none) : step s = .next (s.goto .dispatch) := by
  rw [step_eq_validateRule hr hst hh, validateRule, hv]

/-- In `DISPATCH` a `SET` moves on to `SET_EXEC` (R180). -/
theorem step_dispatch_set {l : Byte} {p f : Half} {tl : List Byte} (hr : s.resetDue = false) (hst : s.st = .dispatch)
    (hd : decodeCommand s.cfg s.buffer = .ok (.set l p f tl)) : step s = .next (s.goto .setExec) := by
  rw [step_of_not_due hr, runRule, hst]
  show dispatchRule s = _
  rw [dispatchRule, hd]

/-- In `SET_EXEC` the decoded `SET` runs (R181). -/
theorem step_setExec {i : Instr} (hr : s.resetDue = false) (hst : s.st = .setExec) (hh : s.hung = none)
    (hd : decodeSet s.buffer = some i) : step s = exec i s := by
  rw [step_of_not_due hr, runRule, hst]
  show unlessHung setExecRule s = _
  rw [unlessHung_free hh, setExecRule, hd]

/-- A run of one evaluation is a step, whatever its outcome. -/
theorem run_one (s : State) : s.run 1 = step s := by
  rcases hs : step s with t | r | r <;> simp [State.run, hs]

/-- A packet that decodes is accepted. -/
theorem validate_of_decodePacket {c : Config} {buf : List Byte} {i : Instr} (h : decodePacket c buf = .ok i) :
    validate c buf = none := validate_eq_none_iff.2 (decodePacket_eq_ok_iff.1 h).1

variable (hr : s.resets = []) (hst : s.st = .validate) (hh : s.hung = none)
include hr hst hh

/-- A `SET` is accepted, selected, and run. -/
theorem run_validate_set {l : Byte} {p f : Half} {tl : List Byte}
    (hd : decodePacket s.cfg s.buffer = .ok (.set l p f tl)) : s.run 3 = exec (.set l p f tl) (s.goto .setExec) := by
  have hcommand := decodeCommand_of_decodePacket hd
  obtain ⟨-, -, hset⟩ := decodeCommand_eq_set_iff.1 hcommand
  have haccept := step_validate_accept (resetDue_of_nil hr) hst hh (validate_of_decodePacket hd)
  have hselect : step (s.goto .dispatch) = .next (s.goto .setExec) :=
    step_dispatch_set (s := s.goto .dispatch) (resetDue_of_nil hr) rfl hcommand
  rw [run_succ_of_next haccept, run_succ_of_next hselect, run_one]
  exact step_setExec (s := s.goto .setExec) (resetDue_of_nil hr) rfl hh hset

/-- A `BIND` is accepted, and run by the Dispatcher. -/
theorem run_validate_bind {l : Byte} {tl : List Byte} (hd : decodePacket s.cfg s.buffer = .ok (.bind l tl)) :
    s.run 2 = exec (.bind l tl) (s.goto .dispatch) := by
  have haccept := step_validate_accept (resetDue_of_nil hr) hst hh (validate_of_decodePacket hd)
  rw [run_succ_of_next haccept, run_one]
  exact step_dispatch_bind (s := s.goto .dispatch) (resetDue_of_nil hr) rfl hd

end

/-! ### Obligations -/

/-- Settles O6: the encoding decodes to the packet (O2), and a packet that decodes is run. -/
theorem encodedPacketIsValidatedDispatchedAndRun : Obligations.EncodedPacketIsValidatedDispatchedAndRun := by
  intro s hst hr hh hc
  refine ⟨fun l p f tl hi hbuf => run_validate_set hr hst hh ?_, fun l tl hi hbuf => run_validate_bind hr hst hh ?_⟩ <;>
    rw [hbuf]
  · exact decodeOfEncodeIsTheInstruction s.cfg (.set l p f tl) hc hi
  · exact decodeOfEncodeIsTheInstruction s.cfg (.bind l tl) hc hi

/-- Settles O32: the three verdicts, read off `RXLEN` and byte 0 of `RXBUF`. -/
theorem validatorRejectsShortOrForeignBuffers : Obligations.ValidatorRejectsShortOrForeignBuffers := by
  intro s hst hcalm hh hpos
  have hr := resetDue_of_nil hcalm.1
  have hlen := s.buffer_length
  have h0 := s.buffer_getElem? 0 hpos
  refine ⟨fun hshort => ?_, fun hmin hne => ?_, fun hmin haddr => ?_⟩
  · have hv := validate_eq_tooShort_iff.2 (hlen.trans_lt hshort)
    exact (step_validate_reject hr hst hh hv).trans (rejectMalformed_calm hcalm _)
  · have hv := validate_eq_wrongAddress_iff.2 ⟨hmin.trans_eq hlen.symm, _, h0, hne⟩
    exact (step_validate_reject hr hst hh hv).trans (rejectMalformed_calm hcalm _)
  · exact step_validate_accept hr hst hh (validate_eq_none_iff.2 ⟨hmin.trans_eq hlen.symm, haddr ▸ h0⟩)

end Sys2Proof.Machine
end

section
/-! PROOFS. `SET` in a calm state (spec 43 R181, 20 R73): its three transactions all complete, so the state once the save is
answered is known in full; what follows it is the sleep, after a failed save the flag and one diagnostic first (60 R256). -/

namespace Sys2Proof.Machine

/-! ### Completed transactions -/

/-- A radio operation issued and completed, in a calm state. -/
def State.radioDone (s : State) (op : RadioOp) (arg : Word) : State :=
  (s.issue (.radio op arg)).elapse (s.callAt 0).cost

/-- A save of the registers issued, completed and answered, in a calm state. -/
def State.saveDone (s : State) : State :=
  ((s.issue (.save s.freq s.power)).elapse (s.callAt 0).cost).commit (s.callAt 0).ok

theorem radioCall_done {s : State} (h : s.Calm) (op : RadioOp) (arg : Word) (k : State → Out) :
    radioCall op arg s k = k (s.radioDone op arg) := radioCall_calm h op arg k

theorem saveCall_done {s : State} (h : s.Calm) (k : Bool → State → Out) :
    saveCall s k = k (s.callAt 0).ok s.saveDone := saveCall_calm h k

theorem State.Calm.radioDone {s : State} (h : s.Calm) (op : RadioOp) (arg : Word) : (s.radioDone op arg).Calm :=
  h.after (.radio op arg) (s.callAt 0).cost

@[simp] theorem State.radioDone_callAt (s : State) (op : RadioOp) (arg : Word) (k : Nat) :
    (s.radioDone op arg).callAt k = s.callAt (k + 1) := s.issue_callAt (.radio op arg) k

@[simp] theorem State.saveDone_callAt (s : State) (k : Nat) : s.saveDone.callAt k = s.callAt (k + 1) :=
  s.issue_callAt (.save s.freq s.power) k

/-- What a save writes: the store, to the new pair when it succeeds or has landed all the same (R203, 93 U6), the time and
the trace. -/
theorem State.saveDone_eq (s : State) :
    s.saveDone =
      { s with
        store := if (s.callAt 0).ok || (s.callAt 0).landed then some (s.freq, s.power) else s.store
        now := s.now + (s.callAt 0).cost
        calls := s.calls.drop 1
        callNo := s.callNo + 1
        trace := s.trace ++ [(s.now, .save s.freq s.power)] } := by
  unfold State.saveDone
  cases (s.callAt 0).ok <;> rfl

/-- A success leaves everything as it is, the sticky flag included (R39). -/
@[simp] theorem State.noteSave_true (s : State) : s.noteSave true = s := by simp [State.noteSave, State.signal]

/-- A failure sets the flag and is named (R181, R256). -/
theorem State.noteSave_false (s : State) :
    s.noteSave false =
      { s with persistErr := true, trace := s.trace ++ [(s.now, .signal .persistWriteFailure)] } := by
  simp [State.noteSave, State.signal]

/-! ### The three transactions of `SET` -/

/-- The three transactions of `SET`, each at the tick at which it is issued (R181). -/
def State.setEvents (s : State) (f : Word) (p : Half) : List (Nat × Event) :=
  [(s.now, .radio .setFrequency f),
    (s.now + (s.callAt 0).cost, .radio .setTxPower (p.zeroExtend 32)),
    (s.now + (s.callAt 0).cost + (s.callAt 1).cost, .save f p)]

/-- The state when the save of a `SET` is answered: registers, store, time and trace, whatever the answer is (R181). -/
def State.setAnswered (s : State) (f : Word) (p : Half) : State :=
  { s with
    freq := f
    power := p
    store := if (s.callAt 2).ok || (s.callAt 2).landed then some (f, p) else s.store
    now := s.now + (s.callAt 0).cost + (s.callAt 1).cost + (s.callAt 2).cost
    calls := s.calls.drop 3
    callNo := s.callNo + 3
    trace := s.trace ++ s.setEvents f p }

/-- The registers, the two radio operations and the save lead there. -/
theorem State.setAnswered_eq (s : State) (f : Word) (p : Half) :
    (((s.putSettings f p).radioDone .setFrequency f).radioDone .setTxPower (p.zeroExtend 32)).saveDone =
      s.setAnswered f p := by
  rw [State.saveDone_eq]
  simp [State.radioDone, State.setAnswered, State.setEvents, storeIssued_of_not_save]

theorem State.setAnswered_callAt (s : State) (f : Word) (p : Half) (k : Nat) :
    (s.setAnswered f p).callAt k = s.callAt (k + 3) := by simp [← State.setAnswered_eq]

theorem State.Calm.setAnswered {s : State} (h : s.Calm) (f : Word) (p : Half) : (s.setAnswered f p).Calm :=
  ⟨h.1, fun c hc => h.2 c (List.mem_of_mem_drop hc)⟩

theorem State.setAnswered_store_of_ok {s : State} (hok : (s.callAt 2).ok = true) (f : Word) (p : Half) :
    (s.setAnswered f p).store = some (f, p) := by simp [State.setAnswered, hok]

section
variable {s : State} (h : s.Calm) (len : Byte) (p f : Half) (tail : List Byte)
include h

/-- The radio operations and the save complete, in R181's order; what is left is to note the answer and to sleep. -/
theorem exec_set_calm :
    exec (.set len p f tail) s =
      diagCall (!(s.callAt 2).ok) .persistFail
        ((s.setAnswered (f32OfQuotient s.cfg.freqScale f) p).noteSave (s.callAt 2).ok) fun t => .next t.enterSleep := by
  have h0 := h.putSettings (f32OfQuotient s.cfg.freqScale f) p
  have h1 := h0.radioDone .setFrequency (f32OfQuotient s.cfg.freqScale f)
  have h2 := h1.radioDone .setTxPower (p.zeroExtend 32)
  have hok : (((s.putSettings (f32OfQuotient s.cfg.freqScale f) p).radioDone .setFrequency
      (f32OfQuotient s.cfg.freqScale f)).radioDone .setTxPower (p.zeroExtend 32)).callAt 0 = s.callAt 2 := by simp
  show execSet len p f tail s = _
  rw [execSet, radioCall_done h0, radioCall_done h1, saveCall_done h2, State.setAnswered_eq, hok]

/-- R181 with a save that succeeds. -/
theorem exec_set_saved (hok : (s.callAt 2).ok = true) :
    exec (.set len p f tail) s = .next (s.setAnswered (f32OfQuotient s.cfg.freqScale f) p).enterSleep := by
  simp only [exec_set_calm h, hok, Bool.not_true, diagCall_not_live, State.noteSave_true]

/-- R181, R256 with a save that fails. -/
theorem exec_set_saveFailed (hok : (s.callAt 2).ok = false) :
    exec (.set len p f tail) s =
      .next
        ((((s.setAnswered (f32OfQuotient s.cfg.freqScale f) p).noteSave false).issue (.diag .persistFail)).elapse
          (s.callAt 3).cost).enterSleep := by
  rw [exec_set_calm h, hok]
  exact (diagCall_calm ((h.setAnswered _ p).noteSave false) .persistFail _).trans
    (by rw [State.noteSave_callAt, State.setAnswered_callAt])

end

/-! ### Obligations -/

/-- Settles O7: a save that succeeds leaves the pair in the store, and nothing else is to note. -/
theorem setAppliesAndPersists : Obligations.SetAppliesAndPersists := by
  intro s l p f tl hscale hcalm hok
  rw [exec_set_saved hcalm l p f tl hok, hscale, State.setAnswered, hok]
  rfl

/-- Settles O8: the failure is named and one diagnostic takes its time, from the tick of the answer on. -/
theorem setSurfacesAFailedSave : Obligations.SetSurfacesAFailedSave := by
  intro s l p f tl hscale hcalm hok
  rw [exec_set_saveFailed hcalm l p f tl hok, hscale, State.noteSave_false, State.setAnswered, hok]
  simp [State.enterSleep, State.elapse, State.issue, storeIssued, State.setEvents, f32OfTenths]

/-- Settles O10: the second `SET` begins in a calm state too, and meets the answers from the fourth on. -/
theorem setTwiceIsSetOnce : Obligations.SetTwiceIsSetOnce := by
  intro s t u l p f tl hcalm hok hok' ht hu
  rw [exec_set_saved hcalm l p f tl hok] at ht
  injection ht with ht
  subst ht
  have hcalm' := (hcalm.setAnswered (f32OfQuotient s.cfg.freqScale f) p).enterSleep
  rw [← s.setAnswered_callAt (f32OfQuotient s.cfg.freqScale f) p 2] at hok'
  rw [exec_set_saved hcalm' l p f tl hok'] at hu
  injection hu with hu
  subst hu
  refine ⟨rfl, rfl, ?_, rfl, _, _, rfl, rfl, rfl, rfl⟩
  exact (State.setAnswered_store_of_ok hok' _ p).trans (State.setAnswered_store_of_ok hok _ p).symm

end Sys2Proof.Machine
end

section
/-! PROOFS. `f32_of_tenths` (spec 43 R187): what the normalising shift, the rounded quotient and the packing each give, and from
these the bounds on the pattern. -/

namespace Sys2Proof.Machine

/-- The shift found keeps to the fuel, and brings `raw` into `[2^23 * scale, 2^24 * scale)`, if `raw` begins below that range's
end and the fuel suffices to reach its beginning. -/
theorem normShift_spec {scale raw : Nat} : ∀ {fuel m : Nat}, raw * 2 ^ m < 2 ^ 24 * scale →
    2 ^ 23 * scale ≤ raw * 2 ^ (m + fuel) →
    normShift scale raw fuel m ≤ m + fuel ∧ 2 ^ 23 * scale ≤ raw * 2 ^ normShift scale raw fuel m ∧
      raw * 2 ^ normShift scale raw fuel m < 2 ^ 24 * scale
  | 0, _, hlt, hle => ⟨le_rfl, hle, hlt⟩
  | fuel + 1, m, hlt, hle => by
    rw [normShift]
    split_ifs with hm
    · exact ⟨by omega, hm, hlt⟩
    · have hnext : raw * 2 ^ (m + 1) < 2 ^ 24 * scale := by rw [pow_succ, ← mul_assoc]; omega
      have hreach : 2 ^ 23 * scale ≤ raw * 2 ^ (m + 1 + fuel) := by rwa [Nat.add_right_comm]
      obtain ⟨hfuel, hrange⟩ := normShift_spec hnext hreach
      exact ⟨by omega, hrange⟩

/-- A 16-bit number other than zero is brought into range by a shift between 2 and 149. -/
theorem normShift_half {raw : Nat} (hpos : 0 < raw) (hlt : raw < 2 ^ 16) :
    2 ≤ normShift 10 raw 149 0 ∧ normShift 10 raw 149 0 ≤ 149 ∧
      2 ^ 23 * 10 ≤ raw * 2 ^ normShift 10 raw 149 0 ∧ raw * 2 ^ normShift 10 raw 149 0 < 2 ^ 24 * 10 := by
  have hreach : 2 ^ 23 * 10 ≤ raw * 2 ^ (0 + 149) := le_mul_of_one_le_of_le hpos (by norm_num)
  obtain ⟨hfuel, hge, hrange⟩ := normShift_spec (by omega) hreach
  refine ⟨?_, by omega, hge, hrange⟩
  by_contra hsmall
  have hpow : 2 ^ normShift 10 raw 149 0 ≤ 2 ^ 1 := Nat.pow_le_pow_right two_pos (by omega)
  have := Nat.mul_le_mul_left raw hpow
  omega

/-- The quotient by ten is within a half, and even at exactly a half (R187). -/
theorem roundDiv_ten (num : Nat) :
    10 * roundDiv 10 num ≤ num + 5 ∧ num ≤ 10 * roundDiv 10 num + 5 ∧
      (10 * roundDiv 10 num = num + 5 ∨ num = 10 * roundDiv 10 num + 5 → roundDiv 10 num % 2 = 0) := by
  unfold roundDiv
  split <;> omega

/-- The exponent above the fraction; a significand of `2^24` carries into the exponent. -/
theorem packF32_toNat {biased q : Nat} (hb : biased < 254) (hge : 2 ^ 23 ≤ q) (hle : q ≤ 2 ^ 24) :
    (packF32 biased q).toNat = biased * 2 ^ 23 + (q - 2 ^ 23) := by
  unfold packF32
  split_ifs with hq
  · rw [BitVec.toNat_ofNat, Nat.shiftLeft_eq]
    omega
  · rw [BitVec.toNat_ofNat, ← Nat.shiftLeft_add_eq_or_of_lt (by omega), Nat.shiftLeft_eq]
    omega

/-- With `m` the normalising shift and `q` the rounded quotient, the pattern of `raw / 10` is that of `q * 2^(-m)`. -/
theorem f32OfTenths_toNat {raw : Half} (hraw : raw ≠ 0) :
    ∃ m q, 2 ≤ m ∧ m ≤ 149 ∧ 2 ^ 23 ≤ q ∧ q ≤ 2 ^ 24 ∧ q = roundDiv 10 (raw.toNat * 2 ^ m) ∧
      (f32OfTenths raw).toNat = (150 - m) * 2 ^ 23 + (q - 2 ^ 23) := by
  have hpos : 0 < raw.toNat := Nat.pos_of_ne_zero fun h => hraw (BitVec.eq_of_toNat_eq h)
  obtain ⟨hm, hm', hge, hlt⟩ := normShift_half hpos raw.isLt
  obtain ⟨hlo, hhi, -⟩ := roundDiv_ten (raw.toNat * 2 ^ normShift 10 raw.toNat 149 0)
  refine ⟨normShift 10 raw.toNat 149 0, _, hm, hm', ?_, ?_, rfl, ?_⟩
  · omega
  · omega
  · rw [f32OfTenths, f32OfQuotient, if_neg hraw]
    exact packF32_toNat (by omega) (by omega) (by omega)

/-- Settles O13: without a carry the significand is the rounded quotient of `raw * 2^m`; with one it is `2^23`, an exponent
higher, and half of everything is still in bounds. -/
theorem tenthsAreRoundedToNearest : Obligations.TenthsAreRoundedToNearest := by
  refine ⟨rfl, fun raw hraw => ?_⟩
  obtain ⟨m, q, hm, hm', hge, hle, hq, hw⟩ := f32OfTenths_toNat hraw
  obtain ⟨hlo, hhi, htie⟩ := roundDiv_ten (raw.toNat * 2 ^ m)
  rw [← hq] at hlo hhi htie
  intro w biased sig num
  rcases hle.lt_or_eq with hlt | hcarry
  · have hbiased : biased = 150 - m := by omega
    have hsig : sig = q := by omega
    have hnum : num = raw.toNat * 2 ^ m := by
      show raw.toNat * 2 ^ (150 - biased) = _
      rw [hbiased, Nat.sub_sub_self (by omega)]
    rw [hbiased, hsig, hnum]
    exact ⟨by omega, by omega, hlo, hhi, htie⟩
  · have hbiased : biased = 151 - m := by omega
    have hsig : sig = 2 ^ 23 := by omega
    have hnum : raw.toNat * 2 ^ m = 2 * num := by
      show _ = 2 * (raw.toNat * 2 ^ (150 - biased))
      obtain ⟨n, rfl⟩ : ∃ n, m = n + 1 := ⟨m - 1, by omega⟩
      rw [show 150 - biased = n by omega, pow_succ]
      ring
    rw [hnum] at hlo hhi
    omega

end Sys2Proof.Machine
end

section
/-! PROOFS. The Dispatcher (spec 43 R180 to R184): the two verdicts that ignore a buffer, the evaluation of `DISPATCH` for each
of its four arms, and the step that runs a decoded instruction. -/

namespace Sys2Proof.Machine

/-! ### The verdicts that ignore a buffer -/

/-- A `SET` without its payload is named (R182). -/
theorem decodeCommand_of_truncated {c : Config} {buf : List Byte} (h2 : buf[2]? = some c.cmdSet)
    (hshort : buf.length - 3 < c.setMinPayload) : decodeCommand c buf = .error .truncatedSet := by
  simp [decodeCommand, h2, hshort]

/-- A command type that is neither command's is named (R184). -/
theorem decodeCommand_of_unrecognised {c : Config} {buf : List Byte} {t : Byte} (h2 : buf[2]? = some t)
    (hset : t ≠ c.cmdSet) (hbind : t ≠ c.cmdBind) : decodeCommand c buf = .error (.unrecognised t) := by
  simp [decodeCommand, h2, hset, hbind]

/-! ### The evaluation of `DISPATCH` -/

section
variable {s : State} (hr : s.resetDue = false) (hst : s.st = .dispatch)
include hr hst

theorem step_eq_dispatchRule : step s = dispatchRule s := by
  rw [step_of_not_due hr, runRule, hst]

/-- What the Dispatcher decodes as a `BIND` runs at once, whatever the address byte is by then (R180, R183). -/
theorem step_dispatch_bindCommand {l : Byte} {tl : List Byte} (hd : decodeCommand s.cfg s.buffer = .ok (.bind l tl)) :
    step s = exec (.bind l tl) s := by
  rw [step_eq_dispatchRule hr hst, dispatchRule, hd]

theorem step_dispatch_reject {r : Reject} (hd : decodeCommand s.cfg s.buffer = .error r) : step s = rejectBuffer r s := by
  rw [step_eq_dispatchRule hr hst, dispatchRule, hd]

end

/-- In the transmitter's states the rule is the transmitter's, which is `BIND_ACK`'s (R150). -/
theorem runRule_transmitting {s : State} (ht : s.st.transmitting = true) : runRule s = exec .bindAck s := by
  unfold runRule
  cases hst : s.st <;> rw [hst] at ht
  case txSettle | txBit | txGap => exact transmitRule_eq_transmit s
  all_goals cases ht

/-! ### Obligations -/

/-- Settles O14: the two named entries of R183 and R150, one after the other. -/
theorem bindLoadsTheAckAndTakesTheLine : Obligations.BindLoadsTheAckAndTakesTheLine := fun _ _ _ => rfl

/-- Settles O5: a packet that decodes is what the Dispatcher and `SET_EXEC` decode of the same buffer. -/
theorem stepRunsTheDecodedInstruction : Obligations.StepRunsTheDecodedInstruction := by
  intro s hr
  refine ⟨fun l p f tl hst hh hd => ?_, fun l tl hst hd => ?_, fun ht _ => ?_, fun l p f tl hst hd => ?_⟩
  · obtain ⟨-, -, hset⟩ := decodeCommand_eq_set_iff.1 (decodeCommand_of_decodePacket hd)
    exact step_setExec hr hst hh hset
  · exact step_dispatch_bindCommand hr hst (decodeCommand_of_decodePacket hd)
  · rw [step_of_not_due hr, runRule_transmitting ht]
  · exact step_dispatch_set hr hst (decodeCommand_of_decodePacket hd)

/-- Settles O33: with six bytes there is a command type, and with eight a `SET` has its operands. -/
theorem dispatcherHasFourArms : Obligations.DispatcherHasFourArms := by
  intro s hst hr hcfg hmin
  have hlen := s.buffer_length
  have h2 := s.buffer_getElem? 2 (by omega)
  refine ⟨fun ht hlong => ?_, fun ht hshort => ?_, fun ht => ?_, fun hset hbind => ?_⟩
  · obtain ⟨l, p, f, tl, hd⟩ := exists_decodeSet_iff.2 (show 7 ≤ s.buffer.length by omega)
    have hpay : s.cfg.setMinPayload ≤ s.buffer.length - 3 := by rw [hcfg]; show 5 ≤ _; omega
    refine step_dispatch_set hr hst (decodeCommand_eq_set_iff.2 ⟨?_, hpay, hd⟩)
    rw [h2, ht, hcfg]
  · have hpay : s.buffer.length - 3 < s.cfg.setMinPayload := by rw [hcfg]; show _ < 5; omega
    refine step_dispatch_reject hr hst (decodeCommand_of_truncated ?_ hpay)
    rw [h2, ht, hcfg]
  · obtain ⟨l, tl, hd⟩ := exists_decodeBind_iff.2 (show 3 ≤ s.buffer.length by omega)
    have hcmd : s.buffer[2]? = some s.cfg.cmdBind := by rw [h2, ht, hcfg]
    have hne : s.cfg.cmdSet ≠ s.cfg.cmdBind := by rw [hcfg]; decide
    rw [step_dispatch_bindCommand hr hst (decodeCommand_eq_bind_iff.2 ⟨hcmd, hne, hd⟩),
      bindLoadsTheAckAndTakesTheLine, hcfg]
  · refine step_dispatch_reject hr hst (decodeCommand_of_unrecognised h2 ?_ ?_) <;> rwa [hcfg]

end Sys2Proof.Machine
end

section
/-! PROOFS. A reset right after a `SET` whose save succeeded (spec 44 R203, 45 R220, 70 R281): the store outlives the reset, and
the load finds the pair. -/

namespace Sys2Proof.Machine

/-- A reset listed for the present tick comes first, and is taken at this tick (R280). -/
theorem step_reset_now {s : State} (h : s.resets = [s.wall]) : step s = .next s.takeReset :=
  step_of_due (by simp [State.resetDue, State.resetWithin, h])

/-- In a calm state `BOOT_LOAD` ends with the loaded pair or the defaults in force (R220). -/
theorem step_bootLoad_calm {s : State} (h : s.Calm) (hst : s.st = .bootLoad) (hh : s.hung = none) :
    step s =
      .next
        ((((s.issue .load).elapse (s.callAt 0).cost).putSettings
          (loadedPair s.cfg (if (s.callAt 0).readable then s.store else none)).1
          (loadedPair s.cfg (if (s.callAt 0).readable then s.store else none)).2).goto .bootApply) := by
  rw [step_of_nil s h.1, runRule, hst]
  show unlessHung bootLoad s = _
  rw [unlessHung_free hh, bootLoad, loadCall_calm h]

/-- A store that can be read and holds a pair brings it back (R202). -/
theorem step_bootLoad_finds {s : State} {f : Word} {p : Half} (h : s.Calm) (hst : s.st = .bootLoad) (hh : s.hung = none)
    (hread : (s.callAt 0).readable = true) (hstore : s.store = some (f, p)) :
    step s = .next ((((s.issue .load).elapse (s.callAt 0).cost).putSettings f p).goto .bootApply) := by
  rw [step_bootLoad_calm h hst hh, hread, hstore]
  rfl

/-- A reset keeps the store and the coming answers (R281), so the load after it reads the pair. -/
theorem run_reset_load {t : State} {f : Word} {p : Half} (h : t.Calm) (hread : (t.callAt 0).readable = true)
    (hstore : t.store = some (f, p)) :
    ∃ v, State.run 2 { t with resets := [t.wall] } = .next v ∧ v.freq = f ∧ v.power = p ∧ v.st = .bootApply := by
  have hload := step_bootLoad_finds (s := { t with resets := [t.wall] }.takeReset) ⟨rfl, h.2⟩ rfl rfl hread hstore
  exact ⟨_, (run_succ_of_next (step_reset_now rfl) 1).trans ((run_one _).trans hload), rfl, rfl, rfl⟩

/-- Settles O12: the `SET` ends calm, with its pair in the store and the load's answer the next to come. -/
theorem savedPairIsLoadedAfterReset : Obligations.SavedPairIsLoadedAfterReset := by
  intro s l p f tl hscale hcalm hok hread
  have hset := exec_set_saved hcalm l p f tl hok
  rw [hscale] at hset
  rw [← s.setAnswered_callAt (f32OfTenths f) p 0] at hread
  obtain ⟨v, hv⟩ := run_reset_load (hcalm.setAnswered (f32OfTenths f) p).enterSleep hread
    (State.setAnswered_store_of_ok hok _ p)
  exact ⟨_, v, hset, hv⟩

end Sys2Proof.Machine
end

section
/-! PROOFS. The ports in a tick (spec 44 R207, R208), from the transactions of the evaluation that consumes it: which requests
stand and which completions come; and the block stuck in a transaction (R297). -/

namespace Sys2Proof.Machine

/-! ### The ports that an evaluation shows -/

/-- The output ports in tick `n` since the latest reset, as the evaluation from `s` to `u` shows them. -/
def State.portsTo (s u : State) (n : Nat) : Ports :=
  { pins := s.pins, persistErr := s.persistErrTo u n, held := s.heldTo u n
    handshakes := (s.spansTo u).flatMap fun p => p.handshakes n }

theorem portsDuring_portsTo {s u : State} (h : step s = .next u) {t : Nat} (h1 : s.wall ≤ t) (h2 : t < u.wall) (k : Nat) :
    s.portsDuring (k + 1) t = some (s.portsTo u (t - s.base)) := portsDuring_here h h1 h2 k

/-- An evaluation that does not reach past the tick leaves the ports to its successor, and puts its handshakes before the
successor's. -/
theorem portsDuring_next {s u : State} (h : step s = .next u) {t : Nat} (h1 : s.wall ≤ t) (h2 : u.wall ≤ t) (k : Nat) :
    s.portsDuring (k + 1) t =
      (u.portsDuring k t).map fun q =>
        { q with handshakes := ((s.spansTo u).flatMap fun p => p.handshakes (t - s.base)) ++ q.handshakes } := by
  simp only [State.portsDuring, evaluationAt_next h h1 h2, handshakesIn_step h h1]
  cases u.evaluationAt k t <;> cases u.handshakesIn k t <;> rfl

/-- A tick that only passes has no transaction of its own. -/
@[simp] theorem State.eventsTo_tick (s : State) : s.eventsTo s.tick = [] := by simp [State.eventsTo]

@[simp] theorem State.spansTo_tick (s : State) : s.spansTo s.tick = [] := by simp [State.spansTo, spansOf]

/-- It shows the pins and the flag as they are, and the transaction in which the block is stuck, if any. -/
theorem State.portsTo_tick (s : State) (n : Nat) :
    s.portsTo s.tick n = { pins := s.pins, persistErr := s.persistErr, held := s.hung, handshakes := [] } := by
  cases hh : s.hung <;> simp [State.portsTo, State.persistErrTo, State.heldTo, hh]

/-- The ports from an evaluation's first tick to its successor's own, which only passes: in the latter the handshakes are
still the evaluation's. -/
theorem portsDuring_until_wait {s u : State} (h : step s = .next u) (hwait : step u = .next u.tick)
    (hbase : u.base = s.base) (hpins : u.pins = s.pins) (herr : s.persistErrTo u u.now = u.persistErr)
    (hheld : s.heldTo u u.now = u.hung) {t : Nat} (h1 : s.wall ≤ t) (h2 : t ≤ u.wall) :
    s.portsDuring 2 t = some (s.portsTo u (t - s.base)) := by
  rcases h2.lt_or_eq with hlt | rfl
  · exact portsDuring_portsTo h h1 hlt 1
  · have hnow : u.wall - s.base = u.now := by simp [State.wall, hbase]
    rw [portsDuring_next h h1 le_rfl, portsDuring_portsTo hwait le_rfl (Nat.lt_succ_self _), State.portsTo_tick, hnow]
    simp [State.portsTo, hpins, herr, hheld]

/-! ### Handshakes and the transactions they belong to -/

/-- A transaction is requested in the tick that issues it. -/
theorem req_mem_handshakes {p : Span} {n : Nat} {ev : Event} : .req ev ∈ p.handshakes n ↔ p.issued = n ∧ p.ev = ev := by
  by_cases hn : p.issued = n <;> simp [Span.handshakes, hn, List.mem_ite_nil_right, eq_comm (a := ev)]

/-- It is reported done in the tick in which it completes, but for a diagnostic. -/
theorem done_mem_handshakes {p : Span} {n : Nat} {ev : Event} :
    .done ev ∈ p.handshakes n ↔ (p.completes = true ∧ p.ended = some n ∧ p.ev.port ≠ some .diag) ∧ p.ev = ev := by
  by_cases hn : p.issued = n <;> simp [Span.handshakes, hn, List.mem_ite_nil_right, eq_comm (a := ev)]

theorem Ports.issues_iff {q : Ports} {o : Port} :
    q.issues o = true ↔ ∃ ev, .req ev ∈ q.handshakes ∧ ev.port = some o := by
  simp only [Ports.issues, List.any_eq_true]
  constructor
  · rintro ⟨h, hmem, hport⟩
    cases h with
    | req ev => exact ⟨ev, hmem, by simpa using hport⟩
    | done ev => cases hport
  · rintro ⟨ev, hmem, hport⟩
    exact ⟨.req ev, hmem, by simpa using hport⟩

theorem Ports.completes_iff {q : Ports} {o : Port} :
    q.completes o = true ↔ ∃ ev, .done ev ∈ q.handshakes ∧ ev.port = some o := by
  simp only [Ports.completes, List.any_eq_true]
  constructor
  · rintro ⟨h, hmem, hport⟩
    cases h with
    | req ev => cases hport
    | done ev => exact ⟨ev, hmem, by simpa using hport⟩
  · rintro ⟨ev, hmem, hport⟩
    exact ⟨.done ev, hmem, by simpa using hport⟩

/-- At most one of these transactions is in flight in tick `n` (R200). -/
def OneInFlight (ps : List Span) (n : Nat) : Prop := ps.Pairwise fun p p' => p.inFlight n = true → p'.inFlight n = false

/-- Then the one found in flight is on port `o` when any is. -/
theorem port_of_found_iff {ps : List Span} {n : Nat} (h : OneInFlight ps n) {o : Port} :
    ((ps.find? fun p => p.inFlight n).map Span.ev).bind Event.port = some o ↔
      ∃ p ∈ ps, p.inFlight n = true ∧ p.ev.port = some o := by
  induction ps with
  | nil => simp
  | cons p ps ih =>
    obtain ⟨hp, hps⟩ := List.pairwise_cons.1 h
    cases hf : p.inFlight n with
    | false => simpa [hf] using ih hps
    | true => simpa [hf] using fun p' hmem hf' => absurd (hp p' hmem hf) (by simp [hf'])

/-- A transaction's request stands: it is issued in tick `n`, or is in flight when the tick is consumed (log entry 28). -/
def Span.Requested (p : Span) (n : Nat) : Prop := p.issued = n ∨ p.inFlight n = true

section
variable {s u : State} {n : Nat} {o : Port}

theorem portsTo_issues_iff : (s.portsTo u n).issues o = true ↔ ∃ p ∈ s.spansTo u, p.ev.port = some o ∧ p.issued = n := by
  simp only [Ports.issues_iff, State.portsTo, List.mem_flatMap, req_mem_handshakes]
  constructor
  · rintro ⟨_, ⟨p, hp, hn, rfl⟩, ho⟩
    exact ⟨p, hp, ho, hn⟩
  · rintro ⟨p, hp, ho, hn⟩
    exact ⟨p.ev, ⟨p, hp, hn, rfl⟩, ho⟩

theorem portsTo_completes_iff (hdiag : o ≠ .diag) :
    (s.portsTo u n).completes o = true ↔
      ∃ p ∈ s.spansTo u, p.ev.port = some o ∧ p.completes = true ∧ p.ended = some n := by
  simp only [Ports.completes_iff, State.portsTo, List.mem_flatMap, done_mem_handshakes]
  constructor
  · rintro ⟨_, ⟨p, hp, ⟨hc, hn, _⟩, rfl⟩, ho⟩
    exact ⟨p, hp, ho, hc, hn⟩
  · rintro ⟨p, hp, ho, hc, hn⟩
    exact ⟨p.ev, ⟨p, hp, ⟨hc, hn, by simpa [ho] using hdiag⟩, rfl⟩, ho⟩

/-- What `radio_req` and `store_req` are, for a block that is not stuck already. -/
theorem portsTo_requests_iff (hh : s.hung = none) (hone : OneInFlight (s.spansTo u) n) :
    ((s.portsTo u n).issues o || (s.portsTo u n).held.bind Event.port == some o) = true ↔
      ∃ p ∈ s.spansTo u, p.ev.port = some o ∧ p.Requested n := by
  have hheld : (s.portsTo u n).held = ((s.spansTo u).find? fun p => p.inFlight n).map Span.ev := by
    simp [State.portsTo, State.heldTo, hh]
  rw [Bool.or_eq_true, beq_iff_eq, portsTo_issues_iff, hheld, port_of_found_iff hone]
  simp only [Span.Requested, and_or_left, exists_or, and_comm (a := Span.inFlight _ _ = true)]

theorem persistErrTo_iff :
    s.persistErrTo u n = true ↔
      s.persistErr = true ∨ ∃ m, m ≤ n ∧ (m, .signal .persistWriteFailure) ∈ s.eventsTo u := by
  simp only [State.persistErrTo, Bool.or_eq_true, List.any_eq_true, decide_eq_true_eq, Prod.exists]
  refine or_congr_right ⟨?_, ?_⟩
  · rintro ⟨m, _, hmem, hm, rfl⟩
    exact ⟨m, hm, hmem⟩
  · rintro ⟨m, hm, hmem⟩
    exact ⟨m, _, hmem, hm, rfl⟩

end

/-! ### Transactions that complete -/

/-- A transaction issued in tick `a` that completes `n` ticks later. -/
def Span.over (ev : Event) (a n : Nat) : Span := { ev := ev, issued := a, ended := some (a + n), completes := true }

@[simp] theorem Span.over_ev (ev : Event) (a n : Nat) : (Span.over ev a n).ev = ev := rfl
@[simp] theorem Span.over_issued (ev : Event) (a n : Nat) : (Span.over ev a n).issued = a := rfl
@[simp] theorem Span.over_ended (ev : Event) (a n : Nat) : (Span.over ev a n).ended = some (a + n) := rfl
@[simp] theorem Span.over_completes (ev : Event) (a n : Nat) : (Span.over ev a n).completes = true := rfl

@[simp] theorem Span.over_inFlight {ev : Event} {a n k : Nat} :
    (Span.over ev a n).inFlight k = decide (a ≤ k ∧ k < a + n) := (Bool.decide_and _ _).symm

@[simp] theorem Span.over_requested {ev : Event} {a n k : Nat} :
    (Span.over ev a n).Requested k ↔ a = k ∨ a ≤ k ∧ k < a + n := by simp [Span.Requested]

/-! ### The stuck block -/

/-- With no reset due, a block stuck in a transaction lets a tick pass (R207, R297). -/
theorem step_stuck {s : State} (hr : s.resetDue = false) (ht : s.st.transacts = true) (hh : s.hung ≠ none) :
    step s = .next s.tick := by
  rw [step_of_not_due hr, runRule]
  cases hst : s.st <;> rw [hst] at ht
  case bootLoad | bootApply | bootReport | validate | setExec => exact unlessHung_stuck hh _
  all_goals cases ht

section
variable {s : State} (hr : s.resets = []) (ht : s.st.transacts = true)
include hr ht

theorem run_stuck (hh : s.hung ≠ none) (n : Nat) : s.run n = .next { s with now := s.now + n } :=
  run_wait s n fun j _ => step_stuck (s := { s with now := s.now + j }) (resetDue_of_nil hr) ht hh

/-- In each tick the transaction is in flight, and the pins and the flag are held. -/
theorem portsDuring_stuck {ev : Event} (hh : s.hung = some ev) (n : Nat) :
    s.portsDuring (n + 1) (s.wall + n) =
      some { pins := s.pins, persistErr := s.persistErr, held := some ev, handshakes := [] } := by
  induction n generalizing s with
  | zero =>
    have hstep := step_stuck (resetDue_of_nil hr) ht (by simp [hh])
    rw [portsDuring_portsTo hstep (Nat.le_add_right _ _) (Nat.lt_succ_self _), State.portsTo_tick, hh]
  | succ n ih =>
    have hstep := step_stuck (resetDue_of_nil hr) ht (by simp [hh])
    have hwall : s.wall + (n + 1) = s.tick.wall + n := by simp [State.wall]; omega
    rw [portsDuring_next hstep (Nat.le_add_right _ _) (by omega), State.spansTo_tick, hwall,
      ih (s := s.tick) hr ht hh]
    rfl

end

end Sys2Proof.Machine
end

section
/-! PROOFS. The transactions of `SET` (spec 43 R181, 44 R207), where those it issues complete and nothing is said of later ones:
the state in which it ends, its ports tick by tick, and the save that never completes. -/

namespace Sys2Proof.Machine

/-! ### Answered transactions -/

/-- A transaction that answers takes its cost. -/
theorem Call.cost_of_ticks {c : Call} {n : Nat} (h : c.ticks = some n) : c.cost = n := by simp [Call.cost, h]

/-- The transaction completes. -/
def Call.Completes (c : Call) : Prop := c.ticks = some c.cost

theorem Call.Completes.of_ticks {c : Call} {n : Nat} (h : c.ticks = some n) : c.Completes := by
  rw [Call.Completes, Call.cost_of_ticks h, h]

theorem radioCall_completes {s : State} (hr : s.resets = []) (h : (s.callAt 0).Completes) (op : RadioOp) (arg : Word)
    (k : State → Out) : radioCall op arg s k = k (s.radioDone op arg) := transact_completes hr h

theorem saveCall_completes {s : State} (hr : s.resets = []) (h : (s.callAt 0).Completes) (k : Bool → State → Out) :
    saveCall s k = k (s.callAt 0).ok s.saveDone := transact_completes hr h

theorem diagCall_completes {s : State} (hr : s.resets = []) (h : (s.callAt 0).Completes) (d : Diag) (k : State → Out) :
    diagCall true d s k = k ((s.issue (.diag d)).elapse (s.callAt 0).cost) := transact_completes hr h

/-! ### The states of `SET` at its save and at its end -/

/-- The state in which a `SET` issues its save: the registers are written, and the two radio operations are done (R181). -/
def State.setTuned (s : State) (f : Word) (p : Half) : State :=
  ((s.putSettings f p).radioDone .setFrequency f).radioDone .setTxPower (p.zeroExtend 32)

@[simp] theorem State.setTuned_callAt (s : State) (f : Word) (p : Half) (k : Nat) :
    (s.setTuned f p).callAt k = s.callAt (k + 2) := by simp [State.setTuned]

theorem State.setTuned_eq (s : State) (f : Word) (p : Half) :
    s.setTuned f p =
      { s with
        freq := f
        power := p
        now := s.now + (s.callAt 0).cost + (s.callAt 1).cost
        calls := s.calls.drop 2
        callNo := s.callNo + 2
        trace := s.trace ++
          [(s.now, .radio .setFrequency f), (s.now + (s.callAt 0).cost, .radio .setTxPower (p.zeroExtend 32))] } := by
  simp only [State.setTuned, State.radioDone, State.issue_callAt, State.elapse_callAt, State.putSettings_callAt]
  simp [State.elapse, State.issue, State.putSettings, storeIssued]

/-- The tick in which the save of a `SET` is answered. -/
def State.setAnswerTick (s : State) : Nat := s.now + (s.callAt 0).cost + (s.callAt 1).cost + (s.callAt 2).cost

/-- What a failed save adds to the trace of a `SET` (R181, R256). -/
def State.saveFailEvents (s : State) : List (Nat × Event) :=
  if (s.callAt 2).ok then [] else [(s.setAnswerTick, .signal .persistWriteFailure), (s.setAnswerTick, .diag .persistFail)]

/-- The tick in which a `SET` is done: after a failed save its diagnostic takes time. -/
def State.setEndTick (s : State) : Nat := s.setAnswerTick + if (s.callAt 2).ok then 0 else (s.callAt 3).cost

/-- The state in which a `SET` ends. -/
def State.setSlept (s : State) (f : Word) (p : Half) : State :=
  { s with
    st := .sleep
    freq := f
    power := p
    persistErr := s.persistErr || !(s.callAt 2).ok
    store := if (s.callAt 2).ok || (s.callAt 2).landed then some (f, p) else s.store
    now := s.setEndTick
    tRef := s.setEndTick
    calls := s.calls.drop (if (s.callAt 2).ok then 3 else 4)
    callNo := s.callNo + if (s.callAt 2).ok then 3 else 4
    trace := s.trace ++ (s.setEvents f p ++ s.saveFailEvents) }

section
variable {s : State} (hr : s.resets = []) (h0 : (s.callAt 0).Completes) (h1 : (s.callAt 1).Completes) (len : Byte)
  (p f : Half) (tail : List Byte)
include hr h0 h1

/-- The radio operations complete; what is left is the save and what follows it. -/
theorem exec_set_tuned :
    exec (.set len p f tail) s =
      saveCall (s.setTuned (f32OfQuotient s.cfg.freqScale f) p) fun ok t =>
        diagCall (!ok) .persistFail (t.noteSave ok) fun u => .next u.enterSleep := by
  have h1' : (((s.putSettings (f32OfQuotient s.cfg.freqScale f) p).radioDone .setFrequency
      (f32OfQuotient s.cfg.freqScale f)).callAt 0).Completes := by simpa using h1
  show execSet len p f tail s = _
  rw [execSet, radioCall_completes (s := s.putSettings _ p) hr h0, radioCall_completes (by exact hr) h1']
  rfl

/-- A save that never completes leaves the block stuck in it, with all that was done before kept (R207). -/
theorem exec_set_stuck (h2 : (s.callAt 2).ticks = none) :
    exec (.set len p f tail) s =
      .next (((s.setTuned (f32OfQuotient s.cfg.freqScale f) p).issue (.save (f32OfQuotient s.cfg.freqScale f) p)).hang
        (.save (f32OfQuotient s.cfg.freqScale f) p)) := by
  rw [exec_set_tuned hr h0 h1, saveCall]
  exact transact_hangs hr (by simpa using h2)

/-- With every transaction completing a `SET` ends in the sleep, whatever the save answers. -/
theorem exec_set_completes (h2 : (s.callAt 2).Completes) (h3 : (s.callAt 3).Completes) :
    exec (.set len p f tail) s = .next (s.setSlept (f32OfQuotient s.cfg.freqScale f) p) := by
  have h2' : ((s.setTuned (f32OfQuotient s.cfg.freqScale f) p).callAt 0).Completes := by simpa using h2
  have hdone : (s.setTuned (f32OfQuotient s.cfg.freqScale f) p).saveDone =
      s.setAnswered (f32OfQuotient s.cfg.freqScale f) p := s.setAnswered_eq _ p
  rw [exec_set_tuned hr h0 h1, saveCall_completes (by exact hr) h2', hdone, State.setTuned_callAt]
  cases hok : (s.callAt 2).ok with
  | true =>
    rw [Bool.not_true, diagCall_not_live, State.noteSave_true]
    simp [State.setSlept, State.setAnswered, State.enterSleep, State.saveFailEvents, State.setEndTick,
      State.setAnswerTick, hok]
  | false =>
    have h3' : (((s.setAnswered (f32OfQuotient s.cfg.freqScale f) p).noteSave false).callAt 0).Completes := by
      rwa [State.noteSave_callAt, State.setAnswered_callAt]
    rw [Bool.not_false, diagCall_completes (by exact hr) h3', State.noteSave_callAt, State.setAnswered_callAt,
      State.noteSave_false]
    simp [State.setSlept, State.setAnswered, State.enterSleep, State.elapse, State.issue, storeIssued,
      State.saveFailEvents, State.setEndTick, State.setAnswerTick, hok]

end

/-! ### The ports through a `SET` -/

/-- The diagnostic of a `SET` whose save failed. -/
def State.saveFailSpans (s : State) : List Span :=
  if (s.callAt 2).ok then [] else [.over (.diag .persistFail) s.setAnswerTick (s.callAt 3).cost]

/-- The transactions of a `SET`, each issued in the tick in which the one before it is over (R200). -/
def State.setSpans (s : State) (f : Word) (p : Half) : List Span :=
  .over (.radio .setFrequency f) s.now (s.callAt 0).cost ::
  .over (.radio .setTxPower (p.zeroExtend 32)) (s.now + (s.callAt 0).cost) (s.callAt 1).cost ::
  .over (.save f p) (s.now + (s.callAt 0).cost + (s.callAt 1).cost) (s.callAt 2).cost :: s.saveFailSpans

section
variable (s : State) (f : Word) (p : Half)

@[simp] theorem State.eventsTo_setSlept : s.eventsTo (s.setSlept f p) = s.setEvents f p ++ s.saveFailEvents :=
  List.drop_left

theorem State.spansTo_setSlept (hh : s.hung = none) : s.spansTo (s.setSlept f p) = s.setSpans f p := by
  have hu : (s.setSlept f p).hung = none := hh
  have hnow : (s.setSlept f p).now = s.setEndTick := rfl
  unfold State.spansTo
  rw [State.eventsTo_setSlept, hu, hnow]
  cases hok : (s.callAt 2).ok <;>
    simp [State.setEvents, State.saveFailEvents, State.setSpans, State.saveFailSpans, State.setEndTick,
      State.setAnswerTick, hok, spansOf, Event.port, Span.over]

/-- They follow each other, so no two are in flight at once. -/
theorem State.setSpans_oneInFlight (n : Nat) : OneInFlight (s.setSpans f p) n := by
  cases hok : (s.callAt 2).ok <;>
    simp [OneInFlight, State.setSpans, State.saveFailSpans, State.setAnswerTick, hok] <;> omega

/-- After a `SET` the flag says whether the save failed, from the tick of the answer on (R39, R181). -/
theorem State.persistErrTo_setSlept (n : Nat) :
    s.persistErrTo (s.setSlept f p) n = true ↔
      s.persistErr = true ∨ (s.callAt 2).ok = false ∧ s.setAnswerTick ≤ n := by
  rw [persistErrTo_iff, State.eventsTo_setSlept]
  cases hok : (s.callAt 2).ok <;> simp [State.setEvents, State.saveFailEvents, hok]

/-- When a `SET` is done none of its transactions is in flight. -/
theorem State.heldTo_setSlept (hh : s.hung = none) : s.heldTo (s.setSlept f p) s.setEndTick = none := by
  unfold State.heldTo
  rw [hh, State.spansTo_setSlept s f p hh]
  cases hok : (s.callAt 2).ok <;>
    simp [State.setSpans, State.saveFailSpans, State.setEndTick, State.setAnswerTick, hok] <;> omega

end

section
variable {s : State} (f : Word) (p : Half)

/-- The sleep after a `SET` begins with a tick that only passes. -/
theorem step_setSlept (hr : s.resets = []) (hsleep : 0 < s.cfg.tSleep) :
    step (s.setSlept f p) = .next (s.setSlept f p).tick :=
  step_wait (resetDue_of_nil hr) (by simpa [State.setSlept, State.waitTicks] using hsleep)

/-- From the tick of a `SET` to the one in which it is done the ports are those of its evaluation. -/
theorem portsDuring_set (hr : s.resets = []) (hh : s.hung = none) (hsleep : 0 < s.cfg.tSleep)
    (h : step s = .next (s.setSlept f p)) {d : Nat} (hd : s.now + d ≤ s.setEndTick) :
    s.portsDuring 2 (s.wall + d) = some (s.portsTo (s.setSlept f p) (s.now + d)) := by
  have herr : s.persistErrTo (s.setSlept f p) s.setEndTick = (s.persistErr || !(s.callAt 2).ok) := by
    rw [Bool.eq_iff_iff, State.persistErrTo_setSlept]
    simp [State.setEndTick]
  have hend : s.wall + d ≤ (s.setSlept f p).wall := by
    show s.base + s.now + d ≤ s.base + s.setEndTick
    omega
  have htick : s.wall + d - s.base = s.now + d := by
    show s.base + s.now + d - s.base = _
    omega
  rw [portsDuring_until_wait h (step_setSlept f p hr hsleep) rfl rfl herr ((s.heldTo_setSlept f p hh).trans hh.symm)
    (Nat.le_add_right _ _) hend, htick]

section
variable (hh : s.hung = none) (n : Nat)
include hh

theorem State.setSlept_radioReq :
    (s.portsTo (s.setSlept f p) n).radioReq = true ↔
      s.now ≤ n ∧ n < s.now + (s.callAt 0).cost + (s.callAt 1).cost ∨ n = s.now ∨ n = s.now + (s.callAt 0).cost := by
  have hspans := s.spansTo_setSlept f p hh
  rw [Ports.radioReq, portsTo_requests_iff hh (hspans ▸ s.setSpans_oneInFlight f p n), hspans]
  cases hok : (s.callAt 2).ok <;>
    simp [State.setSpans, State.saveFailSpans, hok, Event.port] <;> omega

theorem State.setSlept_radioDone :
    (s.portsTo (s.setSlept f p) n).radioDone = true ↔
      n = s.now + (s.callAt 0).cost ∨ n = s.now + (s.callAt 0).cost + (s.callAt 1).cost := by
  rw [Ports.radioDone, portsTo_completes_iff (by decide), s.spansTo_setSlept f p hh]
  cases hok : (s.callAt 2).ok <;>
    simp [State.setSpans, State.saveFailSpans, hok, Event.port, eq_comm (b := n)]

theorem State.setSlept_storeReq :
    (s.portsTo (s.setSlept f p) n).storeReq = true ↔
      n = s.now + (s.callAt 0).cost + (s.callAt 1).cost ∨
        s.now + (s.callAt 0).cost + (s.callAt 1).cost ≤ n ∧ n < s.setAnswerTick := by
  have hspans := s.spansTo_setSlept f p hh
  rw [Ports.storeReq, portsTo_requests_iff hh (hspans ▸ s.setSpans_oneInFlight f p n), hspans]
  cases hok : (s.callAt 2).ok <;>
    simp [State.setSpans, State.saveFailSpans, State.setAnswerTick, hok, Event.port, eq_comm (b := n)]

theorem State.setSlept_storeDone : (s.portsTo (s.setSlept f p) n).storeDone = true ↔ n = s.setAnswerTick := by
  rw [Ports.storeDone, portsTo_completes_iff (by decide), s.spansTo_setSlept f p hh]
  cases hok : (s.callAt 2).ok <;>
    simp [State.setSpans, State.saveFailSpans, State.setAnswerTick, hok, Event.port, eq_comm (b := n)]

theorem State.setSlept_diagReq :
    (s.portsTo (s.setSlept f p) n).diagReq = true ↔ (s.callAt 2).ok = false ∧ n = s.setAnswerTick := by
  rw [Ports.diagReq, portsTo_issues_iff, s.spansTo_setSlept f p hh]
  cases hok : (s.callAt 2).ok <;>
    simp [State.setSpans, State.saveFailSpans, hok, Event.port, eq_comm (b := n)]

end

end

/-! ### Obligations -/

/-- Settles O60: the ports of a `SET` are read off its transactions, a save without an answer leaves the block stuck, and a
stuck block only waits. -/
theorem transactionsTickByTick : Obligations.TransactionsTickByTick := by
  refine ⟨fun s l p f tl n0 n1 n2 n3 hst hr hh hsleep hd h0 h1 h2 h3 d hle => ?_,
    fun s l p f tl n0 n1 hr hscale h0 h1 h2 => ?_, fun s ev ht hh hr n => ?_⟩
  · obtain ⟨-, -, hset⟩ := decodeCommand_eq_set_iff.1 (decodeCommand_of_decodePacket hd)
    have hstep := (step_setExec (resetDue_of_nil hr) hst hh hset).trans
      (exec_set_completes hr (.of_ticks h0) (.of_ticks h1) l p f tl (.of_ticks h2) (.of_ticks h3))
    obtain rfl := Call.cost_of_ticks h0
    obtain rfl := Call.cost_of_ticks h1
    obtain rfl := Call.cost_of_ticks h2
    obtain rfl := Call.cost_of_ticks h3
    have hanswer : s.setAnswerTick = s.now + (s.callAt 0).cost + (s.callAt 1).cost + (s.callAt 2).cost := rfl
    have hend : s.setEndTick = s.setAnswerTick + if (s.callAt 2).ok then 0 else (s.callAt 3).cost := rfl
    refine ⟨_, portsDuring_set _ p hr hh hsleep hstep (by omega), rfl,
      (s.setSlept_radioReq _ p hh _).trans ?_, (s.setSlept_radioDone _ p hh _).trans ?_,
      (s.setSlept_storeReq _ p hh _).trans ?_, (s.setSlept_storeDone _ p hh _).trans ?_,
      (s.setSlept_diagReq _ p hh _).trans (and_congr_right fun _ => ?_),
      (s.persistErrTo_setSlept _ p _).trans (or_congr_right (and_congr_right fun _ => ?_))⟩ <;> omega
  · rw [exec_set_stuck hr (.of_ticks h0) (.of_ticks h1) l p f tl h2, hscale]
    simp only [State.hang, State.issue, State.setTuned_callAt]
    simp [State.setTuned_eq, storeIssued, f32OfTenths, Call.cost_of_ticks h0, Call.cost_of_ticks h1]
  · exact ⟨run_stuck hr ht (by simp [hh]) n, portsDuring_stuck hr ht hh n⟩

end Sys2Proof.Machine
end

section
/-! PROOFS. The Startup Configuration Sequencer (spec 45) in a calm state: the evaluation of each of its three states, and the
run of all three on an empty store (R224). -/

namespace Sys2Proof.Machine

/-! ### `BOOT_LOAD` -/

/-- What a load answers (R202): a pair only when the store can be read and holds one. -/
def State.loadAnswer (s : State) : Option (Word × Half) := if (s.callAt 0).readable then s.store else none

theorem State.loadAnswer_found {s : State} {f : Word} {p : Half} (hread : (s.callAt 0).readable = true)
    (hstore : s.store = some (f, p)) : s.loadAnswer = some (f, p) := by rw [State.loadAnswer, if_pos hread, hstore]

theorem State.loadAnswer_missing {s : State} (h : (s.callAt 0).readable = false ∨ s.store = none) :
    s.loadAnswer = none := by
  rcases h with hread | hstore
  · simp [State.loadAnswer, hread]
  · simp [State.loadAnswer, hstore]

@[simp] theorem loadedPair_some (c : Config) (pair : Word × Half) : loadedPair c (some pair) = pair := rfl

@[simp] theorem loadedPair_none (c : Config) : loadedPair c none = (c.defFreq, c.defPower) := rfl

/-- The state in which `BOOT_LOAD` ends, with a pair of settings in force (R220). -/
def State.bootLoaded (s : State) (pair : Word × Half) : State :=
  (((s.issue .load).elapse (s.callAt 0).cost).putSettings pair.1 pair.2).goto .bootApply

theorem step_bootLoad_loaded {s : State} (h : s.Calm) (hst : s.st = .bootLoad) (hh : s.hung = none) :
    step s = .next (s.bootLoaded (loadedPair s.cfg s.loadAnswer)) := step_bootLoad_calm h hst hh

theorem State.Calm.bootLoaded {s : State} (h : s.Calm) (pair : Word × Half) : (s.bootLoaded pair).Calm :=
  ((h.after .load _).putSettings _ _).goto _

/-! ### `BOOT_APPLY` -/

/-- With no reset coming, a step of a block that is not stuck runs the rule itself. -/
theorem step_of_runRule_unlessHung {s : State} {rule : State → Out} (hr : s.resets = []) (hh : s.hung = none)
    (hrun : runRule s = unlessHung rule s) : step s = rule s := by
  rw [step_of_nil s hr, hrun, unlessHung_free hh]

/-- What five radio operations in a row lead to, each issued when the one before has completed (R200, R207). -/
theorem State.radioDone_five (s : State) (o0 o1 o2 o3 o4 : RadioOp) (a0 a1 a2 a3 a4 : Word) :
    ((((s.radioDone o0 a0).radioDone o1 a1).radioDone o2 a2).radioDone o3 a3).radioDone o4 a4 =
      { s with
        now := s.now + (s.callAt 0).cost + (s.callAt 1).cost + (s.callAt 2).cost + (s.callAt 3).cost + (s.callAt 4).cost
        calls := s.calls.drop 5
        callNo := s.callNo + 5
        trace := s.trace ++
          [(s.now, .radio o0 a0),
            (s.now + (s.callAt 0).cost, .radio o1 a1),
            (s.now + (s.callAt 0).cost + (s.callAt 1).cost, .radio o2 a2),
            (s.now + (s.callAt 0).cost + (s.callAt 1).cost + (s.callAt 2).cost, .radio o3 a3),
            (s.now + (s.callAt 0).cost + (s.callAt 1).cost + (s.callAt 2).cost + (s.callAt 3).cost, .radio o4 a4)] } := by
  simp only [State.radioDone, State.issue_callAt, State.elapse_callAt]
  simp [State.elapse, State.issue, storeIssued]

/-- In a calm state the five operations complete one after the other (R221). -/
theorem bootApply_calm {s : State} (h : s.Calm) :
    bootApply s =
      .next
        ((((((s.radioDone .setFrequency s.freq).radioDone .setTxPower (s.power.zeroExtend 32)).radioDone
          .setSpreadingFactor s.cfg.linkSf).radioDone .setBandwidth s.cfg.linkBw).radioDone .setCodingRate
          s.cfg.linkCr).goto .bootReport) := by
  have h1 := h.radioDone .setFrequency s.freq
  have h2 := h1.radioDone .setTxPower (s.power.zeroExtend 32)
  have h3 := h2.radioDone .setSpreadingFactor s.cfg.linkSf
  have h4 := h3.radioDone .setBandwidth s.cfg.linkBw
  rw [bootApply, radioCall_done h, radioCall_done h1]
  exact (radioCall_done h2 _ _ _).trans ((radioCall_done h3 _ _ _).trans (radioCall_done h4 _ _ _))

/-! ### The run of the three states -/

/-- A state that has only used up answers since a calm one is calm. -/
theorem State.Calm.of_drop {s t : State} {n : Nat} (h : s.Calm) (hr : t.resets = s.resets)
    (hc : t.calls = s.calls.drop n) : t.Calm :=
  ⟨hr.trans h.1, fun c hmem => h.2 c (List.mem_of_mem_drop (hc ▸ hmem))⟩

/-- Three evaluations, one after the other. -/
theorem run_three {s t u v : State} (hs : step s = .next t) (ht : step t = .next u) (hu : step u = .next v) :
    s.run 3 = .next v := by
  rw [run_succ_of_next hs, run_succ_of_next ht, run_one, hu]

/-! ### Obligations -/

/-- Settles O38: the answer of the load decides between its pair and both defaults. -/
theorem bootLoadsThePairOrBothDefaults : Obligations.BootLoadsThePairOrBothDefaults := by
  intro s hst hcalm hh
  refine ⟨_, step_bootLoad_loaded hcalm hst hh, rfl, fun f p hread hstore => ?_, fun hnone => ?_, rfl, rfl, rfl⟩
  · rw [State.loadAnswer_found hread hstore]
    exact ⟨rfl, rfl⟩
  · rw [State.loadAnswer_missing hnone]
    exact ⟨rfl, rfl⟩

/-- Settles O39: the rule of `BOOT_APPLY` is five radio operations in a row. -/
theorem bootAppliesFiveOperations : Obligations.BootAppliesFiveOperations := by
  intro s hst hcalm hh
  have hrule : step s = bootApply s := step_of_runRule_unlessHung hcalm.1 hh (by rw [runRule, hst])
  rw [hrule, bootApply_calm hcalm, State.radioDone_five]
  rfl

/-- Settles O40: the rule of `BOOT_REPORT` is one diagnostic. -/
theorem bootReportsTheSettingsOnce : Obligations.BootReportsTheSettingsOnce := by
  intro s hst hcalm hh
  have hrule : step s = bootReport s := step_of_runRule_unlessHung hcalm.1 hh (by rw [runRule, hst])
  rw [hrule, bootReport, diagCall_calm hcalm]
  rfl

/-- Settles O41: an empty store leaves the defaults in force, O39 applies them and O40 reports them. -/
theorem bootOnAnEmptyStoreReportsTheDefaults : Obligations.BootOnAnEmptyStoreReportsTheDefaults := by
  intro s hst hcfg hcalm hh hstore
  have hload := step_bootLoad_loaded hcalm hst hh
  rw [State.loadAnswer_missing (.inr hstore), loadedPair_none, hcfg] at hload
  have hloaded := hcalm.bootLoaded (Config.defFreq {}, Config.defPower {})
  have happly := bootAppliesFiveOperations _ rfl hloaded hh
  refine ⟨_, run_three hload happly (bootReportsTheSettingsOnce _ rfl (hloaded.of_drop rfl rfl) hh),
    rfl, rfl, rfl, hstore, rfl, rfl, ?_⟩
  simp [State.bootLoaded, hcfg]

end Sys2Proof.Machine
end

section
/-! PROOFS. The Main Control Loop (spec 46 R230 to R236): `IDLE`, `RX_DONE`, the sleep, and the idle cycle that a line at one
level gives. -/

namespace Sys2Proof.Machine

/-! ### The evaluations of the loop's states -/

/-- `RX_DONE` looks at `RXLEN` only (R232). -/
theorem step_rxDone {s : State} (hr : s.resetDue = false) (hst : s.st = .rxDone) :
    step s = .next (if s.rxlen = 0 then s.enterSleep else s.goto .validate) := by
  rw [step_of_not_due hr, runRule, hst]
  rfl

theorem step_rxDone_empty {s : State} (hr : s.resetDue = false) (hst : s.st = .rxDone) (hlen : s.rxlen = 0) :
    step s = .next s.enterSleep := by
  rw [step_rxDone hr hst, if_pos hlen]

theorem step_rxDone_filled {s : State} (hr : s.resetDue = false) (hst : s.st = .rxDone) (hlen : s.rxlen ≠ 0) :
    step s = .next (s.goto .validate) := by
  rw [step_rxDone hr hst, if_neg hlen]

/-- The sleep only lets its ticks pass (R234). -/
theorem run_sleep {s : State} {k : Nat} (hst : s.st = .sleep) (hr : s.resets = []) (href : s.tRef = s.now)
    (hk : k ≤ s.cfg.tSleep) : s.run k = .next (s.elapse k) := by
  have hwait : s.waitTicks = s.cfg.tSleep := by simp [State.waitTicks, hst]
  exact run_wait s k fun j hj => step_elapse hr href (by omega)

/-- Once they have passed, the same tick sees `IDLE`. -/
theorem run_sleep_over {s : State} (hst : s.st = .sleep) (hr : s.resets = []) (href : s.tRef = s.now) :
    s.run (s.cfg.tSleep + 1) = .next ((s.elapse s.cfg.tSleep).goto .idle) := by
  rw [run_add (run_sleep hst hr href le_rfl) 1]
  exact run_succ_of_next (step_sleep_over (s := s.elapse s.cfg.tSleep) hr hst (elapse_over s href)) 0

/-- From `RX_DONE` an empty buffer leads through the whole sleep back to `IDLE` (R232, R234). -/
theorem reaches_idle_of_empty {s : State} (hst : s.st = .rxDone) (hr : s.resets = []) (hlen : s.rxlen = 0) :
    s.Reaches ((s.enterSleep.elapse s.cfg.tSleep).goto .idle) :=
  .trans (.of_step (step_rxDone_empty (resetDue_of_nil hr) hst hlen)) ⟨_, run_sleep_over (s := s.enterSleep) rfl hr rfl⟩

/-! ### Obligations -/

/-- Settles O23: the rule of `IDLE` is the entry of `RECEIVE`. -/
theorem idleEntersReceive : Obligations.IdleEntersReceive := fun _ hst hr => step_idle hr hst

/-- Settles O34: the two arms of `RX_DONE`. -/
theorem emptyBufferSkipsTheValidator : Obligations.EmptyBufferSkipsTheValidator := fun _ hst hr =>
  ⟨step_rxDone_empty hr hst, step_rxDone_filled hr hst⟩

/-- Settles O35: the wait of the sleep, then `IDLE`. -/
theorem sleepLastsExactly : Obligations.SleepLastsExactly :=
  ⟨fun _ => rfl, fun _ hst hr href => ⟨fun _ hk => run_sleep hst hr href hk, run_sleep_over hst hr href⟩⟩

/-- Settles O36: the receive of O29 times out with an empty buffer, and the sleep leads back to `IDLE`. -/
theorem idleCycleTakes210000Ticks : Obligations.IdleCycleTakes210000Ticks := by
  intro s b hst hr hp he hpos hline
  refine ⟨?_, fun hcfg => by rw [hcfg]; rfl⟩
  have htimeout := (silentLineTimesOut s b hst hr hp he hpos hline).2
  have hcycle := State.Reaches.trans ⟨_, htimeout⟩ (reaches_idle_of_empty rfl hr rfl)
  simpa only [State.Reaches, State.enterSleep, State.elapse, State.goto, ← hst] using hcycle

end Sys2Proof.Machine
end

section
/-! PROOFS. Where one evaluation leads (spec 46 R237): along the transition graph, or nowhere while time passes. A case
analysis of `Eval`. -/

namespace Sys2Proof.Machine

/-- With no reset coming and samples that take time, an evaluation waits or follows an edge of R237's graph. -/
theorem Eval.waits_or_edge {s t : State} (h : Eval s t) (hr : s.resets = []) (hpoll : 1 ≤ s.cfg.poll) :
    (t.st = s.st ∧ s.now < t.now) ∨ Seq.edge s.st t.st = true := by
  cases h with
  | reset u hne _ => exact absurd hr hne
  | wait => exact .inl ⟨rfl, Nat.lt_succ_self _⟩
  | hang u ev _ _ _ hu => exact .inl ⟨hu.st, Nat.lt_succ_of_le hu.now_le⟩
  | setHang u f p st ev _ _ _ hu => exact .inl ⟨hu.st, Nat.lt_succ_of_le hu.now_le⟩
  | sample v _ => exact .inl ⟨rfl, Nat.lt_add_of_pos_right hpoll⟩
  | nextBit v hst => exact .inr (by simp [hst, Seq.edge])
  | append q hst hq _ => exact .inr (by rcases hq with rfl | rfl <;> rw [hst] <;> rfl)
  | load u f p hst | apply u hst | report u hst | reject u hst | setDone u f p st hst => exact .inr (by rw [hst]; rfl)
  | receive hst | openWindow hst | timeout hst | start hst | rise hst | bit x hst | fall hst | lastFall hst | full hst
  | skip hst | offer hst | accept hst | select hst | bind hst | ignore c hst | firstBit v hst | gap hst | nextByte v hst
  | ackDone hst | wake hst => exact .inr (by rw [hst]; rfl)

/-- Settles O47: sensible parameters have samples that take time. -/
theorem stepsFollowTheTransitionGraph : Obligations.StepsFollowTheTransitionGraph := by
  intro s t hwf hr h
  obtain ⟨-, -, -, hpoll, -⟩ := (config_wf_iff _).1 hwf
  exact (step_eval h).waits_or_edge hr hpoll

end Sys2Proof.Machine
end

section
/-! PROOFS. Progress (spec 46 R235): in a state with the invariant no rule ends in a fault, and one evaluation gets the block
stuck only in a transaction that the environment never completes (44 R207). -/

namespace Sys2Proof.Machine

/-! ### Rules that lead on -/

/-- The outcome is a next state. -/
def Out.Leads (o : Out) : Prop := ∃ t, o = .next t

theorem Out.Leads.next (t : State) : Out.Leads (.next t) := ⟨t, rfl⟩

/-- A transaction leads on if the rest of the rule does: abandoned or stuck, it does so by itself. -/
theorem transact_leads {live : Bool} {ev : Event} {s : State} {k : Call → State → Out} (hk : ∀ c u, (k c u).Leads) :
    (transact live ev s k).Leads := by
  rcases transact_live_cases live s ev k with ⟨n, h⟩ | h | ⟨_, h⟩
  · exact h ▸ hk _ _
  · exact h ▸ .next _
  · exact h ▸ .next _

theorem radioCall_leads {op : RadioOp} {arg : Word} {s : State} {k : State → Out} (hk : ∀ u, (k u).Leads) :
    (radioCall op arg s k).Leads := transact_leads fun _ => hk

theorem diagCall_leads {live : Bool} {d : Diag} {s : State} {k : State → Out} (hk : ∀ u, (k u).Leads) :
    (diagCall live d s k).Leads := transact_leads fun _ => hk

theorem loadCall_leads {s : State} {k : Option (Word × Half) → State → Out} (hk : ∀ found u, (k found u).Leads) :
    (loadCall s k).Leads := transact_leads fun _ _ => hk _ _

theorem unlessHung_leads {rule : State → Out} {s : State} (h : (rule s).Leads) : (unlessHung rule s).Leads := by
  by_cases hh : s.hung = none
  · exact unlessHung_free hh rule ▸ h
  · exact unlessHung_stuck hh rule ▸ .next _

/-- `LOADBIT` leads on while `TXIDX` and `TXBIT` select a bit (R152). -/
theorem loadBit_leads {s : State} {k : State → State} (hi : s.txidx < 4) (hb : s.txbit < frameLen s.cfg) :
    (loadBit s k).Leads := by
  obtain ⟨v, hv⟩ := s.txLevel_some hi hb
  rw [loadBit, hv]
  exact .next _

theorem Out.Leads.ite {c : Prop} [Decidable c] {o o' : Out} (ho : c → o.Leads) (ho' : ¬c → o'.Leads) :
    Out.Leads (if c then o else o') := by
  split
  · exact ho ‹_›
  · exact ho' ‹_›

/-! ### Startup and receive -/

theorem bootLoad_leads (s : State) : (bootLoad s).Leads :=
  loadCall_leads fun _ _ => .next _

theorem bootApply_leads (s : State) : (bootApply s).Leads :=
  radioCall_leads fun _ => radioCall_leads fun _ => radioCall_leads fun _ => radioCall_leads fun _ =>
    radioCall_leads fun _ => .next _

theorem bootReport_leads (s : State) : (bootReport s).Leads := diagCall_leads fun _ => .next _

/-- There is a bit of `SHIFT` left to write (R125). -/
theorem rxSampleDelay_leads {s : State} (hb : s.bitcnt < 8) : (rxSampleDelay s).Leads :=
  .ite (fun _ => .next _) fun _ => .ite (fun h => absurd hb (Nat.not_lt.2 h)) fun _ => .next _

/-- The buffer holds no more than fits (R127). -/
theorem rxByteDone_leads {s : State} (hl : s.rxlen ≤ s.cfg.rxbufMax) : (rxByteDone s).Leads :=
  .ite (fun _ => .next _) fun _ => .ite (fun h => absurd hl (Nat.not_le.2 h)) fun _ => .next _

/-! ### Validator and Dispatcher -/

theorem rejectMalformed_leads (c : Cause) (s : State) : (rejectMalformed c s).Leads := diagCall_leads fun _ => .next _

/-- A buffer as long as the length test asks for has a first byte (20 R68). -/
theorem validate_ne_noSuchByte {c : Config} (hmin : 0 < c.minPktLen) (buf : List Byte) :
    validate c buf ≠ some .noSuchByte := by
  unfold validate
  split
  · simp
  · split
    · simp_all
    · split <;> simp

/-- A buffer that has passed the length tests has the bytes that its command reads (20 R68). -/
theorem decodeCommand_ne_noSuchByte {c : Config} {buf : List Byte} (hpay : 4 ≤ c.setMinPayload) (hlen : 3 ≤ buf.length) :
    decodeCommand c buf ≠ .error .noSuchByte := by
  unfold decodeCommand
  rw [List.getElem?_eq_getElem hlen, decodeBind_of_length hlen]
  dsimp only
  split_ifs with hset hlong
  · rw [decodeSet_of_length (by omega)]
    simp
  all_goals simp

theorem validateRule_leads {s : State} (hmin : 0 < s.cfg.minPktLen) : (validateRule s).Leads := by
  unfold validateRule
  rcases hv : validate s.cfg s.buffer with _ | r
  · exact .next _
  · rcases validate_reject hv with rfl | rfl | rfl
    · exact rejectMalformed_leads _ s
    · exact rejectMalformed_leads _ s
    · exact absurd hv (validate_ne_noSuchByte hmin _)

theorem dispatchRule_leads {s : State} (hpay : 4 ≤ s.cfg.setMinPayload) (hlen : 3 ≤ s.rxlen) :
    (dispatchRule s).Leads := by
  unfold dispatchRule
  rcases decodeCommand_cases s.cfg s.buffer with ⟨_, _, _, _, hd, _⟩ | ⟨_, _, hd⟩ | hd | ⟨_, hd⟩ | hd
  · exact hd ▸ .next _
  · exact hd ▸ .next _
  · exact hd ▸ .next _
  · exact hd ▸ .next _
  · exact absurd hd (decodeCommand_ne_noSuchByte hpay (by simpa using hlen))

theorem execSet_leads (len : Byte) (power freq10 : Half) (tail : List Byte) (s : State) :
    (execSet len power freq10 tail s).Leads :=
  radioCall_leads fun _ => radioCall_leads fun _ => transact_leads fun _ _ => diagCall_leads fun _ => .next _

/-- The seven bytes of a `SET` are there (R97). -/
theorem setExecRule_leads {s : State} (hlen : 7 ≤ s.rxlen) : (setExecRule s).Leads := by
  unfold setExecRule
  obtain ⟨len, p, f, tail, hd⟩ := exists_decodeSet_iff.2 (s.buffer_length ▸ hlen)
  rw [hd]
  exact execSet_leads len p f tail s

/-! ### Transmitter -/

theorem txSettle_leads (s : State) : (txSettle s).Leads :=
  .ite (fun _ => .next _) fun _ => loadBit_leads (Nat.zero_lt_succ 3) (frameLen_pos _)

theorem txBit_leads {s : State} (hi : s.txidx < 4) (hb : s.txbit < frameLen s.cfg) : (txBit s).Leads :=
  .ite (fun _ => .next _) fun _ => .ite (fun _ => .next _) fun hne => loadBit_leads hi (lt_of_le_of_ne hb hne)

theorem txGap_leads {s : State} (hl : s.txlen = 4) (hi : s.txidx < s.txlen) : (txGap s).Leads :=
  .ite (fun _ => .next _) fun _ => .ite (fun _ => .next _) fun hne =>
    loadBit_leads (hl ▸ lt_of_le_of_ne hi hne) (frameLen_pos _)

/-! ### The step -/

/-- In a state with the invariant the rule of `ST` has what it reads. -/
theorem runRule_leads {s : State} (hi : s.Inv) : (runRule s).Leads := by
  obtain ⟨hr, hl⟩ := (inv_iff s).1 hi
  obtain ⟨-, hmin, hpay, -⟩ := (config_wf_iff _).1 hr.cfg_wf
  unfold runRule
  simp only [transmitRule_eq_transmit, transmit]
  cases hst : s.st <;> simp only [State.Local, hst] at hl <;> dsimp only
  case bootLoad => exact unlessHung_leads (bootLoad_leads s)
  case bootApply => exact unlessHung_leads (bootApply_leads s)
  case bootReport => exact unlessHung_leads (bootReport_leads s)
  case rxSampleDelay => exact rxSampleDelay_leads hl.2.2
  case rxByteDone => exact rxByteDone_leads hr.rxlen_le
  case validate => exact unlessHung_leads (validateRule_leads (by omega))
  case dispatch =>
    obtain ⟨-, -, haccepted⟩ := hl
    exact dispatchRule_leads hpay (hmin.trans haccepted.1)
  case setExec =>
    obtain ⟨-, -, hlong⟩ := hl
    exact unlessHung_leads (setExecRule_leads ((Nat.add_le_add_left hpay 3).trans hlong.1))
  case txSettle => exact txSettle_leads s
  case txBit =>
    obtain ⟨-, -, hack, hidx, hbit⟩ := hl
    exact txBit_leads (hack.2 ▸ hidx) hbit
  case txGap =>
    obtain ⟨-, -, hack, hidx⟩ := hl
    exact txGap_leads hack.2 hidx
  case idle | rxSettle | rxWaitStart | rxWaitRise | rxWaitFall | rxDone | sleep => exact .next _

theorem step_leads {s : State} (hi : s.Inv) : Out.Leads (step s) := .ite (fun _ => .next _) fun _ => runRule_leads hi

/-! ### Getting stuck -/

theorem State.Passes.hung {s u : State} (h : s.Passes u) : u.hung = s.hung :=
  h.keeps State.hung fun _ _ _ _ => rfl

/-- An evaluation leaves `hung` as it is, or clears it in a reset, unless some listed transaction never completes. -/
theorem Eval.hung {s t : State} (h : Eval s t) :
    t.hung = s.hung ∨ t.hung = none ∨ ∃ c ∈ s.calls, c.ticks = none := by
  cases h with
  | reset u => exact .inr (.inl rfl)
  | hang u ev _ _ hc _ => exact .inr (.inr hc)
  | setHang u f p st ev _ _ hc => exact .inr (.inr hc)
  | load u f p _ _ hu | apply u _ _ hu | report u _ _ hu | reject u _ _ hu | setDone u f p st _ _ hu => exact .inl hu.hung
  | wait | start | sample | rise | bit | fall | lastFall | receive | openWindow | timeout | full | append | skip | offer
  | accept | select | bind | ignore | firstBit | nextBit | gap | nextByte | ackDone | wake => exact .inl rfl

/-- Settles O46: the invariant gives every rule what it reads, and only an unanswered transaction sets `hung`. -/
theorem onlyAnUnansweredTransactionStops : Obligations.OnlyAnUnansweredTransactionStops := by
  refine fun s hi => ⟨step_leads hi, fun t h hs ht => ?_⟩
  rcases (step_eval h).hung with hsame | hnone | hc
  · exact absurd (hsame.trans hs) ht
  · exact absurd hnone ht
  · exact hc

end Sys2Proof.Machine
end

section
/-! PROOFS. The line is read only by the evaluations that sample (spec 46 R238, 10 R22): any other evaluation only carries it
along, so that with another line it leads to the same state with that line. -/

namespace Sys2Proof.Machine

/-- The state on another line. -/
def State.setLine (s : State) (w : List Run) : State := { s with line := w }

/-- The state with the line blotted out. -/
def State.hideLine (s : State) : State := { s with line := [] }

/-- The two states are the same, the line apart. -/
def State.SameButLine (u' u : State) : Prop := u'.hideLine = u.hideLine

/-- The two outcomes are the same, the line apart. -/
def Out.SameButLine (o' o : Out) : Prop := Out.mapNext State.hideLine o' = Out.mapNext State.hideLine o

theorem next_sameButLine {u' u : State} (h : u'.SameButLine u) : Out.SameButLine (.next u') (.next u) :=
  congrArg Host.Outcome.next h

/-! ### Transactions, stuck blocks and the output latch -/

/-- A transaction does not read the line: it is left to the rest of the rule. -/
theorem transact_sameButLine {live : Bool} {ev : Event} {w : List Run} {k' k : Call → State → Out}
    (hk : ∀ c u, (k' c (State.setLine u w)).SameButLine (k c u)) (s : State) :
    (transact live ev (s.setLine w) k').SameButLine (transact live ev s k) := by
  refine transact_mapNext_congr rfl rfl rfl rfl rfl fun n => ?_
  cases live
  · exact hk _ s
  · exact hk _ ((s.issue ev).elapse n)

theorem radioCall_sameButLine {op : RadioOp} {arg : Word} {w : List Run} {k' k : State → Out}
    (hk : ∀ u, (k' (State.setLine u w)).SameButLine (k u)) (s : State) :
    (radioCall op arg (s.setLine w) k').SameButLine (radioCall op arg s k) := transact_sameButLine (fun _ => hk) s

theorem diagCall_sameButLine {live : Bool} {d : Diag} {w : List Run} {k' k : State → Out}
    (hk : ∀ u, (k' (State.setLine u w)).SameButLine (k u)) (s : State) :
    (diagCall live d (s.setLine w) k').SameButLine (diagCall live d s k) := transact_sameButLine (fun _ => hk) s

theorem unlessHung_sameButLine {rule : State → Out} {s : State} {w : List Run}
    (h : (rule (s.setLine w)).SameButLine (rule s)) :
    (unlessHung rule (s.setLine w)).SameButLine (unlessHung rule s) := by
  by_cases hh : s.hung = none
  · rwa [unlessHung_free hh, unlessHung_free (s := s.setLine w) hh]
  · rw [unlessHung_stuck hh, unlessHung_stuck (s := s.setLine w) hh]
    rfl

/-- The level that `LOADBIT` drives comes from `TXBUF`. -/
theorem loadBit_sameButLine {w : List Run} {k : State → State}
    (hk : ∀ u, (k (State.setLine u w)).SameButLine (k u)) (s : State) :
    (loadBit (s.setLine w) k).SameButLine (loadBit s k) := by
  unfold loadBit
  rw [show (s.setLine w).txLevel = s.txLevel from rfl]
  rcases s.txLevel with _ | v
  · rfl
  · exact next_sameButLine (hk { s with txd := v, tRef := s.now })

section
variable (s : State) (w : List Run)

/-! ### Rules that issue transactions -/

theorem bootLoad_sameButLine : (bootLoad (s.setLine w)).SameButLine (bootLoad s) := by
  unfold bootLoad loadCall
  exact transact_sameButLine (fun _ _ => by rfl) s

theorem bootApply_sameButLine : (bootApply (s.setLine w)).SameButLine (bootApply s) := by
  refine radioCall_sameButLine (fun u => ?_) s
  refine radioCall_sameButLine (fun u => ?_) u
  refine radioCall_sameButLine (fun u => ?_) u
  refine radioCall_sameButLine (fun u => ?_) u
  exact radioCall_sameButLine (fun _ => by rfl) u

theorem bootReport_sameButLine : (bootReport (s.setLine w)).SameButLine (bootReport s) :=
  diagCall_sameButLine (fun _ => by rfl) s

theorem rejectMalformed_sameButLine (c : Cause) :
    (rejectMalformed c (s.setLine w)).SameButLine (rejectMalformed c s) :=
  diagCall_sameButLine (fun _ => by rfl) (s.signal true (.malformedPacket c))

theorem execSet_sameButLine (len : Byte) (power freq10 : Half) (tail : List Byte) :
    (execSet len power freq10 tail (s.setLine w)).SameButLine (execSet len power freq10 tail s) := by
  refine radioCall_sameButLine (fun u => ?_) (s.putSettings _ power)
  refine radioCall_sameButLine (fun u => ?_) u
  refine transact_sameButLine (fun c u => ?_) u
  exact diagCall_sameButLine (fun _ => by rfl) ((u.commit c.ok).noteSave c.ok)

/-! ### Validator, Dispatcher and transmitter -/

theorem validateRule_sameButLine : (validateRule (s.setLine w)).SameButLine (validateRule s) := by
  unfold validateRule
  rw [show validate (s.setLine w).cfg (s.setLine w).buffer = validate s.cfg s.buffer from rfl]
  rcases hv : validate s.cfg s.buffer with _ | r
  · rfl
  · rcases validate_reject hv with rfl | rfl | rfl
    · exact rejectMalformed_sameButLine s w _
    · exact rejectMalformed_sameButLine s w _
    · rfl

theorem dispatchRule_sameButLine : (dispatchRule (s.setLine w)).SameButLine (dispatchRule s) := by
  unfold dispatchRule
  rw [show decodeCommand (s.setLine w).cfg (s.setLine w).buffer = decodeCommand s.cfg s.buffer from rfl]
  rcases decodeCommand_cases s.cfg s.buffer with ⟨_, _, _, _, hd, _⟩ | ⟨_, _, hd⟩ | hd | ⟨_, hd⟩ | hd
  all_goals
    rw [hd]
    rfl

theorem setExecRule_sameButLine : (setExecRule (s.setLine w)).SameButLine (setExecRule s) := by
  unfold setExecRule
  rw [show decodeSet (s.setLine w).buffer = decodeSet s.buffer from rfl]
  rcases hd : decodeSet s.buffer with _ | i
  · rfl
  · obtain ⟨len, p, f, tail, rfl⟩ := decodeSet_some hd
    exact execSet_sameButLine s w len p f tail

theorem txSettle_sameButLine : (txSettle (s.setLine w)).SameButLine (txSettle s) :=
  ite_related (c := s.now - s.tRef < s.cfg.tSettle) rfl
    (loadBit_sameButLine (fun _ => by rfl) { s with txidx := 0, txbit := 0 })

theorem txBit_sameButLine : (txBit (s.setLine w)).SameButLine (txBit s) :=
  ite_related (c := s.now - s.tRef < s.cfg.tBit) rfl
    (ite_related (c := s.txbit + 1 = frameLen s.cfg) rfl
      (loadBit_sameButLine (fun _ => by rfl) { s with txbit := s.txbit + 1 }))

theorem txGap_sameButLine : (txGap (s.setLine w)).SameButLine (txGap s) :=
  ite_related (c := s.now - s.tRef < s.cfg.tGap) rfl
    (ite_related (c := s.txidx + 1 = s.txlen) rfl
      (loadBit_sameButLine (fun _ => by rfl) { s with txidx := s.txidx + 1, txbit := 0 }))

/-! ### The receiver and the sleep -/

theorem rxSettle_sameButLine : (rxSettle (s.setLine w)).SameButLine (rxSettle s) :=
  next_sameButLine (ite_related (c := s.now - s.tRef < s.cfg.tSettle) rfl rfl)

theorem rxByteDone_sameButLine : (rxByteDone (s.setLine w)).SameButLine (rxByteDone s) :=
  ite_related (c := s.rxlen = s.cfg.rxbufMax) rfl (ite_related (c := s.cfg.rxbufMax < s.rxlen) rfl rfl)

theorem rxDoneRule_sameButLine : (rxDoneRule (s.setLine w)).SameButLine (rxDoneRule s) :=
  next_sameButLine (ite_related (c := s.rxlen = 0) rfl rfl)

theorem sleepRule_sameButLine : (sleepRule (s.setLine w)).SameButLine (sleepRule s) :=
  next_sameButLine (ite_related (c := s.now - s.tRef < s.cfg.tSleep) rfl rfl)

end

section
variable {s : State}

/-- At the close of the window the timeout comes before the sample (R123). -/
theorem rxWaitStart_closed (hw : s.cfg.tRxto ≤ s.now - s.tWin) :
    rxWaitStart s = .next ((s.signal true .transportTimeout).goto .rxDone) := by
  rw [rxWaitStart, if_pos hw]

/-- Before the tick of the bit's sample the delay only waits (R125). -/
theorem rxSampleDelay_wait (hw : s.now - s.tRef < s.cfg.tBit) : rxSampleDelay s = .next s.tick := by
  rw [rxSampleDelay, if_pos hw]

/-! ### The step -/

/-- Where the rule of `ST` does not sample, it does the same on every line (R238). -/
theorem runRule_sameButLine (hs : s.samples = false) (w : List Run) :
    (runRule (s.setLine w)).SameButLine (runRule s) := by
  unfold runRule
  simp only [transmitRule_eq_transmit, transmit]
  rw [show (s.setLine w).st = s.st from rfl]
  cases hst : s.st <;> simp only [State.samples, hst] at hs <;> dsimp only
  case bootLoad => exact unlessHung_sameButLine (bootLoad_sameButLine s w)
  case bootApply => exact unlessHung_sameButLine (bootApply_sameButLine s w)
  case bootReport => exact unlessHung_sameButLine (bootReport_sameButLine s w)
  case idle => rfl
  case rxSettle => exact rxSettle_sameButLine s w
  case rxWaitStart =>
    have hw : s.cfg.tRxto ≤ s.now - s.tWin := Nat.not_lt.1 (of_decide_eq_false hs)
    rw [rxWaitStart_closed hw, rxWaitStart_closed (s := s.setLine w) hw]
    rfl
  case rxWaitRise | rxWaitFall => cases hs
  case rxSampleDelay =>
    have hw : s.now - s.tRef < s.cfg.tBit := Nat.not_le.1 (of_decide_eq_false hs)
    rw [rxSampleDelay_wait hw, rxSampleDelay_wait (s := s.setLine w) hw]
    rfl
  case rxByteDone => exact rxByteDone_sameButLine s w
  case rxDone => exact rxDoneRule_sameButLine s w
  case validate => exact unlessHung_sameButLine (validateRule_sameButLine s w)
  case dispatch => exact dispatchRule_sameButLine s w
  case setExec => exact unlessHung_sameButLine (setExecRule_sameButLine s w)
  case txSettle => exact txSettle_sameButLine s w
  case txBit => exact txBit_sameButLine s w
  case txGap => exact txGap_sameButLine s w
  case sleep => exact sleepRule_sameButLine s w

theorem step_sameButLine (hs : s.samples = false) (w : List Run) : Out.SameButLine (step (s.setLine w)) (step s) :=
  ite_related (c := s.resetDue = true) rfl (runRule_sameButLine hs w)

end

/-- Settles O54: of all rules only those of the receiver read the line, and only where they sample. -/
theorem deafTicksDoNotReadTheLine : Obligations.DeafTicksDoNotReadTheLine := fun _ w hs => step_sameButLine hs w

end Sys2Proof.Machine
end

section
/-! PROOFS. Signalling a condition (spec 60 R260 to R262): the two forms of `State.signal` as whole states. Its projections
stand with the rules of the state. -/

namespace Sys2Proof.Machine

/-- A live signal names the condition and the tick at the end of the trace; every other field is the state's own (R262). -/
theorem State.signal_true (s : State) (c : Condition) :
    s.signal true c = { s with trace := s.trace ++ [(s.now, .signal c)] } := rfl

/-- Where its guard fails, a signal leaves no mark (R262). -/
@[simp] theorem State.signal_false (s : State) (c : Condition) : s.signal false c = s := rfl

/-! ### Obligations -/

/-- Settles O56: the two forms of a signal. -/
theorem signalWritesOnlyTheTrace : Obligations.SignalWritesOnlyTheTrace :=
  fun s c => ⟨s.signal_true c, s.signal_false c⟩

end Sys2Proof.Machine
end

section
/-! PROOFS. An asserted reset (spec 70 R280, R281, R284): the tick at which it is taken, a transaction it abandons, and a `SET`
abandoned in its first transaction. The state after it is `State.takeReset`, whose fields stand with the rules of the state. -/

namespace Sys2Proof.Machine

/-! ### The tick at which a reset is taken -/

/-- With a reset listed, whether it is asserted within `n` ticks is whether its tick is reached by then. -/
theorem State.resetWithin_cons {s : State} {r : Nat} {rs : List Nat} (h : s.resets = r :: rs) (n : Nat) :
    s.resetWithin n = decide (r ≤ s.wall + n) := by simp [State.resetWithin, h]

/-- A reset that is not yet overdue is taken at the tick at which it is asserted. -/
theorem State.resetAt_of_wall_le {s : State} {r : Nat} {rs : List Nat} (h : s.resets = r :: rs) (hr : s.wall ≤ r) :
    s.resetAt = r := by simp [State.resetAt, h, hr]

/-- A reset that is due is taken now. -/
theorem State.resetAt_of_due {s : State} (h : s.resetDue = true) : s.resetAt = s.wall := by
  cases hs : s.resets with
  | nil => simp [resetDue_of_nil hs] at h
  | cons r rs =>
    have hle : r ≤ s.wall := by simpa [State.resetDue, State.resetWithin_cons hs] using h
    simp [State.resetAt, hs, hle]

/-! ### A transaction that a reset abandons -/

/-- A reset that comes no later than the completion of a live transaction abandons it once it is issued, and so does any reset to
come where the transaction never completes (R280). -/
theorem transact_abandoned {s : State} {ev : Event} {k : Call → State → Out} (hr : s.resets ≠ [])
    (h : ∀ n, (s.callAt 0).ticks = some n → s.resetWithin n = true) :
    transact true ev s k = .next (s.issue ev).takeReset := by
  cases ht : (s.callAt 0).ticks with
  | none => simp [transact, ht, hr]
  | some n => simp [transact, ht, h n ht]

/-- A `SET` whose first transaction a reset abandons has put the settings and issued that transaction, and nothing else. -/
theorem exec_set_abandoned {s : State} (l : Byte) (p f : Half) (tl : List Byte) (hr : s.resets ≠ [])
    (h : ∀ n, (s.callAt 0).ticks = some n → s.resetWithin n = true) :
    exec (.set l p f tl) s =
      .next
        ((s.putSettings (f32OfQuotient s.cfg.freqScale f) p).issue
          (.radio .setFrequency (f32OfQuotient s.cfg.freqScale f))).takeReset := by
  show execSet l p f tl s = _
  rw [execSet, radioCall]
  exact transact_abandoned (s := s.putSettings _ p) hr h

/-! ### Obligations -/

/-- Settles O43: the step is the reset, taken at the present tick. -/
theorem resetComesFirstAndKeepsTheStore : Obligations.ResetComesFirstAndKeepsTheStore := by
  intro s hdue
  have hat : s.resetAt = s.wall := s.resetAt_of_due hdue
  have htick : s.resetAt - s.base = s.now := by rw [hat, State.wall, Nat.add_sub_cancel_left]
  have htrace : s.takeReset.trace = s.trace ++ [(s.now, .reset)] := by rw [State.takeReset_trace, htick]
  exact ⟨_, step_of_due hdue, rfl, rfl, rfl, rfl, rfl, rfl, rfl, rfl, rfl, rfl, rfl, hat, htrace⟩

/-- Settles O11: the reset comes within the first transaction whatever its duration, and is taken at its own tick; the
transaction it abandons is no save, so the store is the old one. -/
theorem resetAbandonsASetInFlight : Obligations.ResetAbandonsASetInFlight := by
  intro s r rs l p f tl hresets hlater hwithin
  have hexec := exec_set_abandoned (s := s) l p f tl (by simp [hresets]) fun n hn => by
    simpa [State.resetWithin_cons hresets] using hwithin n hn
  -- neither the registers nor the issue moves the clock or the coming resets
  have hat : ((s.putSettings (f32OfQuotient s.cfg.freqScale f) p).issue
      (.radio .setFrequency (f32OfQuotient s.cfg.freqScale f))).resetAt = r :=
    (State.resetAt_of_wall_le hresets hlater.le : s.resetAt = r)
  refine ⟨_, hexec, rfl, rfl, rfl, rfl, rfl, rfl, rfl, hat, rfl, ?_, ?_⟩
  · simp [hresets]
  · simp [hat]

end Sys2Proof.Machine
end
